-- ==== Sys2Proof/Word.lean ====
section
/-!
DEFINITION. The block's fixed-width words, one name per format of 30_encoding.md R60. Bit 0 is the least significant
bit and every value is unsigned (00_scope.md R8).
-/

namespace Sys2Proof

/-- Format S (R61): one raw binary observation of the line. -/
abbrev Sample := BitVec 1

/-- Format W (R62): eight samples, earliest in bit 7; also the index of every table (R41). -/
abbrev Window := BitVec 8

/-- Format B (R68): one demodulated bit. -/
abbrev LogicalBit := BitVec 1

/-- Format IN (R63): `rst`, `frame_end`, `sample_valid`, `sample`, from bit 3 down to bit 0. -/
abbrev InWord := BitVec 4

/-- Format OUT (R64): `kind` in bits 4:3, `enc` in bits 2:1, `bit` in bit 0. -/
abbrev OutWord := BitVec 5

end Sys2Proof
end

