-- ==== Sys2Proof/Config.lean ====
section
/-!
DEFINITION. What the block fixes once for all (00_scope.md R7). The spec leaves no parameter open and no value free,
so there is no opaque constant here: every name is a number the spec states.
-/

namespace Sys2Proof.Config

/-- Samples per window, `W` of R7; a window is complete when the count reaches it (R81). -/
abbrev windowSamples : Nat := 8

/-- Entries of each of the three tables, 2^W of R7. -/
abbrev tableEntries : Nat := 256

/-- How many values a 4-bit input word has (R63, R66). -/
abbrev inputWords : Nat := 16

/-- The count when all samples of a window but its last are in hand (R81). -/
abbrev lastBeforeWindow : Nat := 7

end Sys2Proof.Config
end

