-- ==== Sys2Proof/Syntax.lean ====
section
/-!
DEFINITION. The operations of the block: one constructor per row of spec/opcode_table.json, five input operations
(format IN, 30_encoding.md R66) and thirty rows of the three window maps (format W, R73). Ignored bits (R66, U7) are
no operands. A row whose pattern leaves window bits free carries them: the defaults their whole window, the pairs of
DECODE_B their bit 0.
-/

namespace Sys2Proof

/-- An Encoding (00_scope.md R11, 30_encoding.md R65). The code 0b11 cannot be written down (R69 (c), U3). -/
inductive Encoding where
  | unknown
  | encodingA
  | encodingB
  deriving DecidableEq, Repr

/-- An Encoding that is not Unknown: what a frame is locked to and what an event carries (R74). DECODE takes this type,
so that DECODE(Unknown, w) has no value (R104, U4). -/
inductive LockedEncoding where
  | encodingA
  | encodingB
  deriving DecidableEq, Repr

/-- The three constant tables (20_memory.md R40). -/
inductive Table where
  | cls
  | deca
  | decb
  deriving DecidableEq, Repr

/-- The two code spaces of opcode_table.json: the input word, and the window maps of the three tables. -/
inductive Space where
  | input
  | windows (t : Table)
  deriving DecidableEq, Repr

/-- A code: a word of a code space. -/
inductive Code where
  | input (w : InWord)
  | window (t : Table) (w : Window)
  deriving DecidableEq, Repr

inductive Instr where
  /-- RESET, `1---` (R114). -/
  | reset
  /-- FRAME_END, `010-` (R112). -/
  | frameEnd
  /-- FRAME_END_SAMPLE, `011s` (R113). -/
  | frameEndSample (s : Sample)
  /-- SAMPLE, `001s` (R111). -/
  | sample (s : Sample)
  /-- IDLE, `000-` (R115). -/
  | idle
  /-- CLASSIFY.A_1F to CLASSIFY.default, the window map of `CLS` (R73, R90). -/
  | classifyA1F
  | classifyA3F
  | classifyA9F
  | classifyB50
  | classifyB70
  | classifyBA0
  | classifyBA1
  | classifyBB0
  | classifyBE0
  | classifyBE1
  | classifyBF0
  | classifyBF1
  | classifyDefault (w : Window)
  /-- DECODE_A.1_F0 to DECODE_A.default, the window map of `DECA` (R73, R100). -/
  | decodeAF0
  | decodeAF1
  | decodeAF3
  | decodeAF8
  | decodeAF9
  | decodeAFC
  | decodeADefault (w : Window)
  /-- DECODE_B.1_50 to DECODE_B.default, the window map of `DECB` (R73, R101); `lo` is window bit 0. -/
  | decodeB50 (lo : BitVec 1)
  | decodeB70 (lo : BitVec 1)
  | decodeB90 (lo : BitVec 1)
  | decodeBA0 (lo : BitVec 1)
  | decodeBB0 (lo : BitVec 1)
  | decodeBC0 (lo : BitVec 1)
  | decodeBD0 (lo : BitVec 1)
  | decodeBE0 (lo : BitVec 1)
  | decodeBF0 (lo : BitVec 1)
  | decodeBDefault (w : Window)
  deriving DecidableEq, Repr

end Sys2Proof
end

