-- ==== Sys2Proof/WellFormed.lean ====
section
/-!
DEFINITION. Which instructions are well formed. Every field of `Instr` has its exact width, so the one check is that
of the three default rows: "a listed pattern wins over the default row of its table" (30_encoding.md R73), so a
default row's window matches no listed pattern of its table. The patterns are R73's (match, mask) pairs.
-/

namespace Sys2Proof

/-- "an entry matches when `(w & mask) == match`" (R73). -/
def Window.matchesAny (w : Window) (patterns : List (Window × Window)) : Bool :=
  patterns.any fun p => w &&& p.2 == p.1

/-- R73's nine patterns of `CLS`. -/
def listedCls : List (Window × Window) :=
  [(0x1F, 0xFF), (0x3F, 0xFF), (0x9F, 0xFF), (0x50, 0xFF), (0x70, 0xFF), (0xA0, 0xFE), (0xB0, 0xFF), (0xE0, 0xFE),
   (0xF0, 0xFE)]

/-- R73's four patterns of `DECA`. -/
def listedDeca : List (Window × Window) :=
  [(0xF0, 0xFE), (0xF3, 0xFF), (0xF8, 0xFE), (0xFC, 0xFF)]

/-- R73's nine patterns of `DECB`. -/
def listedDecb : List (Window × Window) :=
  [(0x50, 0xFE), (0x70, 0xFE), (0x90, 0xFE), (0xA0, 0xFE), (0xB0, 0xFE), (0xC0, 0xFE), (0xD0, 0xFE), (0xE0, 0xFE),
   (0xF0, 0xFE)]

/-- An instruction is well formed when a default row carries a window no listed row of its table matches (R73). -/
def Instr.wf : Instr → Bool
  | .classifyDefault w => !w.matchesAny listedCls
  | .decodeADefault w => !w.matchesAny listedDeca
  | .decodeBDefault w => !w.matchesAny listedDecb
  | _ => true

end Sys2Proof
end

