-- ==== Sys2Proof/Decode.lean ====
section
/-!
DEFINITION. The decoder of the two code spaces of spec/opcode_table.json, total on both, and after it the encoder.
An input word selects one of five operations (30_encoding.md R66, 43_engine.md R126); a complete window selects one
row of the table it is looked up in (R73). No code of either space is illegal (R69); what is refused by name is a number
that is no code of the space it is read in.
-/

namespace Sys2Proof

/-- Why a number is no code (R60: format IN has 4 bits, format W has 8). -/
inductive Reject where
  | inputWordTooWide
  | windowTooWide
  deriving DecidableEq, Repr

/-- The operation an input word selects (R126): the ignored bits of R66 are not looked at. -/
def decodeInput (w : InWord) : Instr :=
  if w.extractLsb' 3 1 = 0b1#1 then .reset
  else if w.extractLsb' 1 2 = 0b10#2 then .frameEnd
  else if w.extractLsb' 1 2 = 0b11#2 then .frameEndSample (w.extractLsb' 0 1)
  else if w.extractLsb' 1 2 = 0b01#2 then .sample (w.extractLsb' 0 1)
  else .idle

/-- The listed rows of `CLS` in opcode_table.json, mask 0xFF each. -/
def clsRows : List (Window × Instr) :=
  [(0x1F, .classifyA1F), (0x3F, .classifyA3F), (0x9F, .classifyA9F), (0x50, .classifyB50), (0x70, .classifyB70),
   (0xA0, .classifyBA0), (0xA1, .classifyBA1), (0xB0, .classifyBB0), (0xE0, .classifyBE0), (0xE1, .classifyBE1),
   (0xF0, .classifyBF0), (0xF1, .classifyBF1)]

/-- The listed rows of `DECA` in opcode_table.json, mask 0xFF each. -/
def decaRows : List (Window × Instr) :=
  [(0xF0, .decodeAF0), (0xF1, .decodeAF1), (0xF3, .decodeAF3), (0xF8, .decodeAF8), (0xF9, .decodeAF9),
   (0xFC, .decodeAFC)]

/-- The listed rows of `DECB` in opcode_table.json, mask 0xFE each: window bit 0 is free. -/
def decbRows (lo : BitVec 1) : List (Window × Instr) :=
  [(0x50, .decodeB50 lo), (0x70, .decodeB70 lo), (0x90, .decodeB90 lo), (0xA0, .decodeBA0 lo), (0xB0, .decodeBB0 lo),
   (0xC0, .decodeBC0 lo), (0xD0, .decodeBD0 lo), (0xE0, .decodeBE0 lo), (0xF0, .decodeBF0 lo)]

/-- The listed row a window matches in a table, if any. -/
def listedRow (t : Table) (w : Window) : Option Instr :=
  match t with
  | .cls => clsRows.lookup w
  | .deca => decaRows.lookup w
  | .decb => (decbRows (w.extractLsb' 0 1)).lookup (w &&& 0xFE)

/-- The default row of a table. -/
def defaultRow (t : Table) (w : Window) : Instr :=
  match t with
  | .cls => .classifyDefault w
  | .deca => .decodeADefault w
  | .decb => .decodeBDefault w

/-- The row a window selects in a table: "a listed pattern wins over the default row of its table" (R73). -/
def decodeWindow (t : Table) (w : Window) : Instr :=
  (listedRow t w).getD (defaultRow t w)

/-- The instruction of a code: total (R69 (a), (b)). -/
def decode : Code → Instr
  | .input w => decodeInput w
  | .window t w => decodeWindow t w

/-- Reads a number as a code of a space, and refuses by name what is wider than the space's format. -/
def readCode (sp : Space) (n : Nat) : Except Reject Code :=
  match sp with
  | .input => if n < Config.inputWords then .ok (.input (BitVec.ofNat 4 n)) else .error .inputWordTooWide
  | .windows t => if n < Config.tableEntries then .ok (.window t (BitVec.ofNat 8 n)) else .error .windowTooWide

/-- The instruction of any number in a space, or the name of the refusal. -/
def decodeNumber (sp : Space) (n : Nat) : Except Reject Instr :=
  (readCode sp n).map decode

/-- The table a bare window is taken to belong to where nothing says which: the first of `CLS`, `DECA`, `DECB` that
lists it, and `CLS` for a window none lists (the table of the reset state). DESIGN CHOICE, safe: log entry 6. -/
def windowHome (w : Window) : Table :=
  if (listedRow .cls w).isSome then .cls
  else if (listedRow .deca w).isSome then .deca
  else if (listedRow .decb w).isSome then .decb
  else .cls

/-- The code of a word of opcode_table.json given by its bits alone. The table's two formats share the numbers 0 to 15;
they are taken as input words, except that a row with no bits of its own (the default row of `CLS`) is the window
of zeros. DESIGN CHOICE, safe: log entry 6. -/
def tableCode (nbits w : Nat) : Option Code :=
  if nbits = 0 then
    if w = 0 then some (.window .cls 0#8) else none
  else if w < Config.inputWords then some (.input (BitVec.ofNat 4 w))
  else if w < Config.tableEntries then some (.window (windowHome (BitVec.ofNat 8 w)) (BitVec.ofNat 8 w))
  else none

/-- The instruction the decoder reads from a word of opcode_table.json. -/
def decodeTableWord (nbits w : Nat) : Option Instr :=
  (tableCode nbits w).map decode

/-- The code of an instruction, ignored bits 0 (R66: "the canonical words"), from the `encoding` column of
opcode_table.json. -/
def encode : Instr → Code
  | .reset => .input 0b1000#4
  | .frameEnd => .input 0b0100#4
  | .frameEndSample s => .input (0b011#3 ++ s)
  | .sample s => .input (0b001#3 ++ s)
  | .idle => .input 0b0000#4
  | .classifyA1F => .window .cls 0b00011111#8
  | .classifyA3F => .window .cls 0b00111111#8
  | .classifyA9F => .window .cls 0b10011111#8
  | .classifyB50 => .window .cls 0b01010000#8
  | .classifyB70 => .window .cls 0b01110000#8
  | .classifyBA0 => .window .cls 0b10100000#8
  | .classifyBA1 => .window .cls 0b10100001#8
  | .classifyBB0 => .window .cls 0b10110000#8
  | .classifyBE0 => .window .cls 0b11100000#8
  | .classifyBE1 => .window .cls 0b11100001#8
  | .classifyBF0 => .window .cls 0b11110000#8
  | .classifyBF1 => .window .cls 0b11110001#8
  | .classifyDefault w => .window .cls w
  | .decodeAF0 => .window .deca 0b11110000#8
  | .decodeAF1 => .window .deca 0b11110001#8
  | .decodeAF3 => .window .deca 0b11110011#8
  | .decodeAF8 => .window .deca 0b11111000#8
  | .decodeAF9 => .window .deca 0b11111001#8
  | .decodeAFC => .window .deca 0b11111100#8
  | .decodeADefault w => .window .deca w
  | .decodeB50 lo => .window .decb (0b0101000#7 ++ lo)
  | .decodeB70 lo => .window .decb (0b0111000#7 ++ lo)
  | .decodeB90 lo => .window .decb (0b1001000#7 ++ lo)
  | .decodeBA0 lo => .window .decb (0b1010000#7 ++ lo)
  | .decodeBB0 lo => .window .decb (0b1011000#7 ++ lo)
  | .decodeBC0 lo => .window .decb (0b1100000#7 ++ lo)
  | .decodeBD0 lo => .window .decb (0b1101000#7 ++ lo)
  | .decodeBE0 lo => .window .decb (0b1110000#7 ++ lo)
  | .decodeBF0 lo => .window .decb (0b1111000#7 ++ lo)
  | .decodeBDefault w => .window .decb w

end Sys2Proof
end

