-- ==== Sys2Proof/Machine/State.lean ====
section
/-!
DEFINITION. The state of the block, as plain data: the spec's three registers (10_state.md R20 to R22; R25: they are all
the registers there are), and the model's own record of the two streams of R28. The tables are constants, so they are
definitions (Machine/Tables.lean) and not state (R32). The codes 9 to 15 of `cnt` and 0b11 of `lock` cannot be written
down (R23, 93 U3): DEDUCED, unsafe: log entry 12.
-/

namespace Sys2Proof.Machine

open Sys2Proof

/-- The events of the output boundary (30_encoding.md R74, 60_exceptions.md R141). -/
inductive Event where
  | frameStarted (e : LockedEncoding)
  | bit (b : LogicalBit) (e : LockedEncoding)
  | frameEnded
  deriving DecidableEq, Repr

/-- An entry of a table: an Encoding in `CLS`, a LogicalBit in `DECA` and `DECB` (R40, R68). -/
inductive TableEntry where
  | encoding (e : Encoding)
  | bit (b : LogicalBit)
  deriving DecidableEq, Repr

/-- One `RomRead(T, w)` (00_scope.md R9): the table, the index and the entry it gave. -/
structure TableRead where
  table : Table
  window : Window
  entry : TableEntry
  deriving DecidableEq, Repr

structure State where
  /-- The sample shift register, newest sample in bit 0 (R20). -/
  sr : Window
  /-- The fill counter, 0 to 8 by its type (R21, R23 (a)). -/
  cnt : Fin 9
  /-- The engine state register: `unknown` is SEARCHING, otherwise LOCKED (R22). -/
  lock : Encoding
  /-- The model's own: the input words still to be presented, next one first (R28, R48). DESIGN CHOICE, safe: log
  entry 1. -/
  input : List InWord
  /-- The model's own: the output word of the last step (R64, R126). DESIGN CHOICE, safe: log entry 3. -/
  out : OutWord
  /-- The model's own: the event output stream so far, oldest first (R28, R48 (b)). DESIGN CHOICE, safe: log entry 3. -/
  events : List Event
  /-- The model's own: the table entry the last step consulted, if any (R45, R52). DESIGN CHOICE, safe: log entry 4. -/
  tableRead : Option TableRead
  deriving DecidableEq, Repr

/-- The block raises no exception and no step faults, "in any state, on any input" (60_exceptions.md R130): there is no
fault, and nothing raises one. -/
inductive Fault where
  deriving DecidableEq, Repr

/-- The spec refuses nothing either (R130, 43_engine.md R120). -/
inductive Refusal where
  /-- Raised by an arm of `exec` whose instruction has no meaning yet; safe. No arm raises it. -/
  | notModelled (mnemonic : String)
  deriving DecidableEq, Repr

/-- The state after RESET (10_state.md R30): SEARCHING, the buffer empty, no event out. Nothing is waiting at the input
and nothing has been emitted: DESIGN CHOICE, safe: log entries 1, 3, 4. -/
def State.reset : State where
  sr := 0x00#8
  cnt := 0
  lock := .unknown
  input := []
  out := 0b00000#5
  events := []
  tableRead := none

end Sys2Proof.Machine
end

