-- ==== Sys2Proof/Machine/Tables.lean ====
section
/-!
DEFINITION. The three constant tables (20_memory.md R40, R44), built from the source's lists as 41_classifier.md R94
asks, and the one read of them (R45: total, pure, one whole entry). The lists are the source's, unaudited against any
firmware (91 N2): UNVERIFIED, unsafe: log entry 8.
-/

namespace Sys2Proof.Machine

open Sys2Proof

/-- The EncodingA class (R91). -/
def startWindowsA : List Window :=
  [0x1F, 0x3F, 0x9F]

/-- The EncodingB class (R92). -/
def startWindowsB : List Window :=
  [0x50, 0x70, 0xA0, 0xA1, 0xB0, 0xE0, 0xE1, 0xF0, 0xF1]

/-- CLASSIFY (R90); every window of neither class is Unknown (R93). -/
def classify (w : Window) : Encoding :=
  if w ∈ startWindowsA then .encodingA
  else if w ∈ startWindowsB then .encodingB
  else .unknown

/-- The windows DECODE_A gives 1 for (R100). -/
def oneWindowsA : List Window :=
  [0xF0, 0xF1, 0xF3, 0xF8, 0xF9, 0xFC]

/-- DECODE_A (R100). -/
def decodeA (w : Window) : LogicalBit :=
  if w ∈ oneWindowsA then 1#1 else 0#1

/-- The high nibble `hi = w[7:4]` of a window (R67 (b), R101). -/
def hiNibble (w : Window) : BitVec 4 :=
  w.extractLsb' 4 4

/-- The low nibble `lo = w[3:0]` of a window (R67 (b), R101). -/
def loNibble (w : Window) : BitVec 4 :=
  w.extractLsb' 0 4

/-- The high nibbles DECODE_B gives 1 for (R101). -/
def oneHighNibblesB : List (BitVec 4) :=
  [0x5, 0x7, 0x9, 0xA, 0xB, 0xC, 0xD, 0xE, 0xF]

/-- The low nibbles DECODE_B gives 1 for (R101). -/
def oneLowNibblesB : List (BitVec 4) :=
  [0x0, 0x1]

/-- DECODE_B (R101). -/
def decodeB (w : Window) : LogicalBit :=
  if hiNibble w ∈ oneHighNibblesB ∧ loNibble w ∈ oneLowNibblesB then 1#1 else 0#1

/-- DECODE, the choice of decode table by the locked encoding (R104); Unknown is no argument (U4). -/
def decodeBit (e : LockedEncoding) (w : Window) : LogicalBit :=
  match e with
  | .encodingA => decodeA w
  | .encodingB => decodeB w

/-- `RomRead(T, w)` (R9, R41, R45). -/
def romRead (t : Table) (w : Window) : TableEntry :=
  match t with
  | .cls => .encoding (classify w)
  | .deca => .bit (decodeA w)
  | .decb => .bit (decodeB w)

end Sys2Proof.Machine
end

