-- ==== Sys2Proof/Machine/Operands.lean ====
section
/-!
DEFINITION. How operands are assembled (30_encoding.md R67) and how values are coded at the ports (R64, R65).
-/

namespace Sys2Proof.Machine

open Sys2Proof

/-- WSHIFT (40_windower.md R80): `{sr[6:0], s}`. -/
def wshift (sr : Window) (s : Sample) : Window :=
  sr.extractLsb' 0 7 ++ s

/-- A locked encoding as an Encoding. -/
def encodingOf (e : LockedEncoding) : Encoding :=
  match e with
  | .encodingA => .encodingA
  | .encodingB => .encodingB

/-- The encoding operand of a decode, if `e` is not Unknown (R67 (d), R104). -/
def lockedOf (e : Encoding) : Option LockedEncoding :=
  match e with
  | .unknown => none
  | .encodingA => some .encodingA
  | .encodingB => some .encodingB

/-- The decode table of a locked encoding (R28, R104). -/
def decodeTable (e : LockedEncoding) : Table :=
  match e with
  | .encodingA => .deca
  | .encodingB => .decb

/-- Format E (R65): the 2-bit code of an Encoding. -/
def encodingCode (e : Encoding) : BitVec 2 :=
  match e with
  | .unknown => 0b00#2
  | .encodingA => 0b01#2
  | .encodingB => 0b10#2

/-- Format OUT (R64): `{kind, enc, bit}`, fields that carry no value 0. -/
def outWord (e : Option Event) : OutWord :=
  match e with
  | none => 0b00#2 ++ 0b00#2 ++ 0#1
  | some (.frameStarted enc) => 0b01#2 ++ encodingCode (encodingOf enc) ++ 0#1
  | some (.bit b enc) => 0b10#2 ++ encodingCode (encodingOf enc) ++ b
  | some .frameEnded => 0b11#2 ++ 0b00#2 ++ 0#1

end Sys2Proof.Machine
end

