-- ==== Sys2Proof/Machine/Flags.lean ====
section
/-!
DEFINITION. The block has no arithmetic flags; its one status value is `lock` (10_state.md R26), written by the operations
of Machine/Ops.lean. Its one computation beside the shift is the fill count (40_windower.md R81, R84 (b)).
-/

namespace Sys2Proof.Machine

open Sys2Proof

/-- `n = min(cnt + 1, 8)` (R81): the count saturates and never wraps. -/
def countNext (cnt : Fin 9) : Fin 9 :=
  ⟨min (cnt.val + 1) Config.windowSamples, Nat.lt_succ_of_le (Nat.min_le_right _ _)⟩

/-- WDONE (R81): a window is complete in this step. -/
def windowDone (cnt : Fin 9) : Bool :=
  countNext cnt == 8

end Sys2Proof.Machine
end

