-- ==== Sys2Proof/Machine/Ops.lean ====
section
/-!
DEFINITION. The named operations over the registers, the tables and the two streams, each written once and shared by the
meanings: emitting, consulting a table, entering and leaving a frame (the block's analogue of taking and returning from
an exception, 60_exceptions.md R134, R135), the two halves of FRAME_END_SAMPLE, and taking the next input word.
-/

namespace Sys2Proof.Machine

open Sys2Proof

/-- `emit E` (R9): the event goes out in this step, as the output word (R64) and on the stream (R28). -/
def State.emit (s : State) (e : Event) : State :=
  { s with out := outWord (some e), events := s.events ++ [e] }

/-- `RomRead(t, w)` as a step's one look at a table (R45): pure, so nothing but the model's record of it changes. -/
def State.consult (s : State) (t : Table) (w : Window) : State :=
  { s with tableRead := some ⟨t, w, romRead t w⟩ }

/-- Entering a frame: the lock step (R111 match branch, R134). Nothing is saved; the frame's windows start after the
start window (R118). -/
def State.enterFrame (s : State) (e : LockedEncoding) : State :=
  { s with lock := encodingOf e, cnt := 0 }.emit (.frameStarted e)

/-- FRAME_END (R112, R135): leaving a frame restores nothing and drops a partial window; while SEARCHING it has no
effect. -/
def State.endFrame (s : State) : State :=
  match lockedOf s.lock with
  | none => s
  | some _ => { s with lock := .unknown, cnt := 0 }.emit .frameEnded

/-- A complete window while SEARCHING (R111): classified, and the first non-Unknown result locks. On Unknown the count
stays at 8, so that the next window is one sample further on: 93 U9 assumes this of the original firmware and sets the
byte-aligned reading aside. UNVERIFIED, unsafe: log entry 9. -/
def State.searchWindow (s : State) (w : Window) : State :=
  match lockedOf (classify w) with
  | none => { s.consult .cls w with cnt := 8 }
  | some e => (s.consult .cls w).enterFrame e

/-- A complete window while LOCKED(e) (R111): decoded by the table of `e`, whatever it looks like (R119). -/
def State.frameWindow (s : State) (e : LockedEncoding) (w : Window) : State :=
  { s.consult (decodeTable e) w with cnt := 0 }.emit (.bit (decodeBit e w) e)

/-- SAMPLE(b) (R111): the sample is shifted in and counted; a complete window goes to the classifier or to the decode
table of `lock`. -/
def State.takeSample (s : State) (b : Sample) : State :=
  let w := wshift s.sr b
  if windowDone s.cnt then
    match lockedOf s.lock with
    | none => { s with sr := w }.searchWindow w
    | some e => { s with sr := w }.frameWindow e w
  else { s with sr := w, cnt := countNext s.cnt }

/-- RESET (R114, R30): the three registers take their reset values; nothing is emitted. -/
def State.resetRegisters (s : State) : State :=
  { s with lock := .unknown, cnt := 0, sr := 0x00#8 }

/-- The code the next step runs: the next input word, or the canonical IDLE word 0x0 where none is presented (R140,
R158, D18). DEDUCED, safe: log entry 2. -/
def State.nextCode (s : State) : Code :=
  match s.input with
  | [] => .input 0b0000#4
  | w :: _ => .input w

/-- A step begins: its input word is taken, once (R47); no event is out yet (R126: "or 0x00 if none") and no table has
been consulted. -/
def State.beginStep (s : State) : State :=
  { s with input := s.input.tail, out := outWord none, tableRead := none }

/-- The `lock` under which a table is consulted (R28, R52). -/
def lockFor (t : Table) : Encoding :=
  match t with
  | .cls => .unknown
  | .deca => .encodingA
  | .decb => .encodingB

/-- Sets up the very next step to run a code. An input word is presented next. A window has no input word of its own
(R73: it is selected inside SAMPLE), so seven of its samples are put in the buffer under the `lock` of its table,
and the SAMPLE word of the eighth is presented next. DESIGN CHOICE, safe: log entry 5. -/
def State.placeCode (s : State) (c : Code) : State :=
  match c with
  | .input w => { s with input := w :: s.input }
  | .window t w =>
    { s with sr := w >>> 1, cnt := Fin.ofNat 9 Config.lastBeforeWindow, lock := lockFor t,
             input := (0b001#3 ++ w.extractLsb' 0 1) :: s.input }

end Sys2Proof.Machine
end

