-- ==== Sys2Proof/Machine/Classifier.lean ====
section
/-!
DEFINITION. The meanings of the rows of `CLS` (41_classifier.md R90; 30_encoding.md R73). A row is one entry of a pure
function: it gives its entry and changes no register; "the change of `lock` that follows a non-Unknown result is the
engine's doing" (R90, 90_conflicts.md C5), and stands in SAMPLE. What a row gives is read where SAMPLE reads it, and
shows in the model's record of the table read (log entry 5).
-/

namespace Sys2Proof.Machine

open Sys2Proof

/-- CLASSIFY.A_1F: `RomRead(CLS, 0x1F)` (R90). -/
def execClassifyA1F (s : State) : Host.Outcome State Fault Refusal :=
  .next (s.consult .cls 0x1F#8)

/-- CLASSIFY.A_3F: `RomRead(CLS, 0x3F)` (R90). -/
def execClassifyA3F (s : State) : Host.Outcome State Fault Refusal :=
  .next (s.consult .cls 0x3F#8)

/-- CLASSIFY.A_9F: `RomRead(CLS, 0x9F)` (R90). -/
def execClassifyA9F (s : State) : Host.Outcome State Fault Refusal :=
  .next (s.consult .cls 0x9F#8)

/-- CLASSIFY.B_50: `RomRead(CLS, 0x50)` (R90). -/
def execClassifyB50 (s : State) : Host.Outcome State Fault Refusal :=
  .next (s.consult .cls 0x50#8)

/-- CLASSIFY.B_70: `RomRead(CLS, 0x70)` (R90). -/
def execClassifyB70 (s : State) : Host.Outcome State Fault Refusal :=
  .next (s.consult .cls 0x70#8)

/-- CLASSIFY.B_A0: `RomRead(CLS, 0xA0)` (R90). -/
def execClassifyBA0 (s : State) : Host.Outcome State Fault Refusal :=
  .next (s.consult .cls 0xA0#8)

/-- CLASSIFY.B_A1: `RomRead(CLS, 0xA1)` (R90). -/
def execClassifyBA1 (s : State) : Host.Outcome State Fault Refusal :=
  .next (s.consult .cls 0xA1#8)

/-- CLASSIFY.B_B0: `RomRead(CLS, 0xB0)` (R90). -/
def execClassifyBB0 (s : State) : Host.Outcome State Fault Refusal :=
  .next (s.consult .cls 0xB0#8)

/-- CLASSIFY.B_E0: `RomRead(CLS, 0xE0)` (R90). -/
def execClassifyBE0 (s : State) : Host.Outcome State Fault Refusal :=
  .next (s.consult .cls 0xE0#8)

/-- CLASSIFY.B_E1: `RomRead(CLS, 0xE1)` (R90). -/
def execClassifyBE1 (s : State) : Host.Outcome State Fault Refusal :=
  .next (s.consult .cls 0xE1#8)

/-- CLASSIFY.B_F0: `RomRead(CLS, 0xF0)` (R90). -/
def execClassifyBF0 (s : State) : Host.Outcome State Fault Refusal :=
  .next (s.consult .cls 0xF0#8)

/-- CLASSIFY.B_F1: `RomRead(CLS, 0xF1)` (R90). -/
def execClassifyBF1 (s : State) : Host.Outcome State Fault Refusal :=
  .next (s.consult .cls 0xF1#8)

/-- CLASSIFY.default: `RomRead(CLS, w)` for a window no listed row matches (R90, R93). -/
def execClassifyDefault (w : Window) (s : State) : Host.Outcome State Fault Refusal :=
  .next (s.consult .cls w)

end Sys2Proof.Machine
end

