-- ==== Sys2Proof/Machine/Demodulator.lean ====
section
/-!
DEFINITION. The meanings of the rows of `DECA` and `DECB` (42_demodulator.md R100, R101; 30_encoding.md R73). As with the
classifier's rows, each gives its entry and "writes no state" (R105); the Bit event is the engine's (R111).
-/

namespace Sys2Proof.Machine

open Sys2Proof

/-- DECODE_A.1_F0: `RomRead(DECA, 0xF0)` (R100). -/
def execDecodeAF0 (s : State) : Host.Outcome State Fault Refusal :=
  .next (s.consult .deca 0xF0#8)

/-- DECODE_A.1_F1: `RomRead(DECA, 0xF1)` (R100). -/
def execDecodeAF1 (s : State) : Host.Outcome State Fault Refusal :=
  .next (s.consult .deca 0xF1#8)

/-- DECODE_A.1_F3: `RomRead(DECA, 0xF3)` (R100). -/
def execDecodeAF3 (s : State) : Host.Outcome State Fault Refusal :=
  .next (s.consult .deca 0xF3#8)

/-- DECODE_A.1_F8: `RomRead(DECA, 0xF8)` (R100). -/
def execDecodeAF8 (s : State) : Host.Outcome State Fault Refusal :=
  .next (s.consult .deca 0xF8#8)

/-- DECODE_A.1_F9: `RomRead(DECA, 0xF9)` (R100). -/
def execDecodeAF9 (s : State) : Host.Outcome State Fault Refusal :=
  .next (s.consult .deca 0xF9#8)

/-- DECODE_A.1_FC: `RomRead(DECA, 0xFC)` (R100). -/
def execDecodeAFC (s : State) : Host.Outcome State Fault Refusal :=
  .next (s.consult .deca 0xFC#8)

/-- DECODE_A.default: `RomRead(DECA, w)` for a window no listed row matches (R100). -/
def execDecodeADefault (w : Window) (s : State) : Host.Outcome State Fault Refusal :=
  .next (s.consult .deca w)

/-- DECODE_B.1_50: `RomRead(DECB, w)` for the pair `w` of windows 0x50 and 0x51, `lo` their bit 0 (R101). -/
def execDecodeB50 (lo : BitVec 1) (s : State) : Host.Outcome State Fault Refusal :=
  .next (s.consult .decb (0b0101000#7 ++ lo))

/-- DECODE_B.1_70: `RomRead(DECB, w)` for the pair `w` of windows 0x70 and 0x71, `lo` their bit 0 (R101). -/
def execDecodeB70 (lo : BitVec 1) (s : State) : Host.Outcome State Fault Refusal :=
  .next (s.consult .decb (0b0111000#7 ++ lo))

/-- DECODE_B.1_90: `RomRead(DECB, w)` for the pair `w` of windows 0x90 and 0x91, `lo` their bit 0 (R101). -/
def execDecodeB90 (lo : BitVec 1) (s : State) : Host.Outcome State Fault Refusal :=
  .next (s.consult .decb (0b1001000#7 ++ lo))

/-- DECODE_B.1_A0: `RomRead(DECB, w)` for the pair `w` of windows 0xA0 and 0xA1, `lo` their bit 0 (R101). -/
def execDecodeBA0 (lo : BitVec 1) (s : State) : Host.Outcome State Fault Refusal :=
  .next (s.consult .decb (0b1010000#7 ++ lo))

/-- DECODE_B.1_B0: `RomRead(DECB, w)` for the pair `w` of windows 0xB0 and 0xB1, `lo` their bit 0 (R101). -/
def execDecodeBB0 (lo : BitVec 1) (s : State) : Host.Outcome State Fault Refusal :=
  .next (s.consult .decb (0b1011000#7 ++ lo))

/-- DECODE_B.1_C0: `RomRead(DECB, w)` for the pair `w` of windows 0xC0 and 0xC1, `lo` their bit 0 (R101). -/
def execDecodeBC0 (lo : BitVec 1) (s : State) : Host.Outcome State Fault Refusal :=
  .next (s.consult .decb (0b1100000#7 ++ lo))

/-- DECODE_B.1_D0: `RomRead(DECB, w)` for the pair `w` of windows 0xD0 and 0xD1, `lo` their bit 0 (R101). -/
def execDecodeBD0 (lo : BitVec 1) (s : State) : Host.Outcome State Fault Refusal :=
  .next (s.consult .decb (0b1101000#7 ++ lo))

/-- DECODE_B.1_E0: `RomRead(DECB, w)` for the pair `w` of windows 0xE0 and 0xE1, `lo` their bit 0 (R101). -/
def execDecodeBE0 (lo : BitVec 1) (s : State) : Host.Outcome State Fault Refusal :=
  .next (s.consult .decb (0b1110000#7 ++ lo))

/-- DECODE_B.1_F0: `RomRead(DECB, w)` for the pair `w` of windows 0xF0 and 0xF1, `lo` their bit 0 (R101). -/
def execDecodeBF0 (lo : BitVec 1) (s : State) : Host.Outcome State Fault Refusal :=
  .next (s.consult .decb (0b1111000#7 ++ lo))

/-- DECODE_B.default: `RomRead(DECB, w)` for a window no listed row matches (R101). -/
def execDecodeBDefault (w : Window) (s : State) : Host.Outcome State Fault Refusal :=
  .next (s.consult .decb w)

end Sys2Proof.Machine
end

