-- ==== Sys2Proof/Machine/Engine.lean ====
section
/-!
DEFINITION. The meanings of the five input operations (43_engine.md R111 to R115). Each completes in every state (R120).
Where the source is silent they follow the spec's own decisions D6 to D13: UNVERIFIED, unsafe: log entry 10.
-/

namespace Sys2Proof.Machine

open Sys2Proof

/-- RESET (R114). -/
def execReset (s : State) : Host.Outcome State Fault Refusal :=
  .next s.resetRegisters

/-- FRAME_END (R112). -/
def execFrameEnd (s : State) : Host.Outcome State Fault Refusal :=
  .next s.endFrame

/-- FRAME_END_SAMPLE (R113): the SAMPLE half reads what the FRAME_END half wrote (90_conflicts.md C10). -/
def execFrameEndSample (b : Sample) (s : State) : Host.Outcome State Fault Refusal :=
  .next (s.endFrame.takeSample b)

/-- SAMPLE (R111). -/
def execSample (b : Sample) (s : State) : Host.Outcome State Fault Refusal :=
  .next (s.takeSample b)

/-- IDLE (R115). -/
def execIdle (s : State) : Host.Outcome State Fault Refusal :=
  .next s

end Sys2Proof.Machine
end

