-- ==== Sys2Proof/Machine/Dispatch.lean ====
section
/-!
DEFINITION. The one dispatch over every instruction: one arm per constructor, each a direct call of its meaning.
-/

namespace Sys2Proof.Machine

open Sys2Proof

def exec (i : Instr) (s : State) : Host.Outcome State Fault Refusal :=
  match i with
  | .reset => Sys2Proof.Machine.execReset s
  | .frameEnd => Sys2Proof.Machine.execFrameEnd s
  | .frameEndSample b => Sys2Proof.Machine.execFrameEndSample b s
  | .sample b => Sys2Proof.Machine.execSample b s
  | .idle => Sys2Proof.Machine.execIdle s
  | .classifyA1F => Sys2Proof.Machine.execClassifyA1F s
  | .classifyA3F => Sys2Proof.Machine.execClassifyA3F s
  | .classifyA9F => Sys2Proof.Machine.execClassifyA9F s
  | .classifyB50 => Sys2Proof.Machine.execClassifyB50 s
  | .classifyB70 => Sys2Proof.Machine.execClassifyB70 s
  | .classifyBA0 => Sys2Proof.Machine.execClassifyBA0 s
  | .classifyBA1 => Sys2Proof.Machine.execClassifyBA1 s
  | .classifyBB0 => Sys2Proof.Machine.execClassifyBB0 s
  | .classifyBE0 => Sys2Proof.Machine.execClassifyBE0 s
  | .classifyBE1 => Sys2Proof.Machine.execClassifyBE1 s
  | .classifyBF0 => Sys2Proof.Machine.execClassifyBF0 s
  | .classifyBF1 => Sys2Proof.Machine.execClassifyBF1 s
  | .classifyDefault w => Sys2Proof.Machine.execClassifyDefault w s
  | .decodeAF0 => Sys2Proof.Machine.execDecodeAF0 s
  | .decodeAF1 => Sys2Proof.Machine.execDecodeAF1 s
  | .decodeAF3 => Sys2Proof.Machine.execDecodeAF3 s
  | .decodeAF8 => Sys2Proof.Machine.execDecodeAF8 s
  | .decodeAF9 => Sys2Proof.Machine.execDecodeAF9 s
  | .decodeAFC => Sys2Proof.Machine.execDecodeAFC s
  | .decodeADefault w => Sys2Proof.Machine.execDecodeADefault w s
  | .decodeB50 lo => Sys2Proof.Machine.execDecodeB50 lo s
  | .decodeB70 lo => Sys2Proof.Machine.execDecodeB70 lo s
  | .decodeB90 lo => Sys2Proof.Machine.execDecodeB90 lo s
  | .decodeBA0 lo => Sys2Proof.Machine.execDecodeBA0 lo s
  | .decodeBB0 lo => Sys2Proof.Machine.execDecodeBB0 lo s
  | .decodeBC0 lo => Sys2Proof.Machine.execDecodeBC0 lo s
  | .decodeBD0 lo => Sys2Proof.Machine.execDecodeBD0 lo s
  | .decodeBE0 lo => Sys2Proof.Machine.execDecodeBE0 lo s
  | .decodeBF0 lo => Sys2Proof.Machine.execDecodeBF0 lo s
  | .decodeBDefault w => Sys2Proof.Machine.execDecodeBDefault w s

end Sys2Proof.Machine
end

