-- ==== Sys2Proof/Machine/Step.lean ====
section
/-!
DEFINITION. The step function (00_scope.md R10, 43_engine.md R126): take the next input word, decode it, perform the
operation.
-/

namespace Sys2Proof.Machine

open Sys2Proof

def step (s : State) : Host.Outcome State Fault Refusal :=
  exec (decode s.nextCode) s.beginStep

/-- `s` with a word of opcode_table.json placed so that the very next step runs it (log entries 5 and 6). -/
def State.withFetchWord (s : State) (nbits w : Nat) : State :=
  match tableCode nbits w with
  | some c => s.placeCode c
  | none => s

end Sys2Proof.Machine
end

