-- ==== Sys2Proof/Machine/Trace.lean ====
section
/-!
DEFINITION. The trace notation (30_encoding.md R71, R72, decision D19): one mnemonic per input word, an assembler to the
canonical words, a disassembler of all sixteen, and the two pseudo-operations. Notation only: no step reads it.
-/

namespace Sys2Proof.Machine

open Sys2Proof

/-- The mnemonics of R71: S0 and S1, FE, FES0 and FES1, RST, NOP. -/
inductive TraceOp where
  | s (b : Sample)
  | fe
  | fes (b : Sample)
  | rst
  | nop
  deriving DecidableEq, Repr

/-- The canonical input word of a mnemonic, ignored bits 0 (R71). -/
def assemble (m : TraceOp) : InWord :=
  match m with
  | .s b => 0b001#3 ++ b
  | .fe => 0x4#4
  | .fes b => 0b011#3 ++ b
  | .rst => 0x8#4
  | .nop => 0x0#4

/-- "A disassembler maps each of the 16 words to the mnemonic of its operation by rule R66" (R71). -/
def disassemble (w : InWord) : TraceOp :=
  if w &&& 0x8#4 = 0x8#4 then .rst
  else if w &&& 0xE#4 = 0x4#4 then .fe
  else if w &&& 0xE#4 = 0x6#4 then .fes (w.extractLsb' 0 1)
  else if w &&& 0xE#4 = 0x2#4 then .s (w.extractLsb' 0 1)
  else .nop

/-- `W 0xNN`: the eight SAMPLE mnemonics that deliver a window, earliest sample first (R72). -/
def windowTrace (w : Window) : List TraceOp :=
  [.s (w.extractLsb' 7 1), .s (w.extractLsb' 6 1), .s (w.extractLsb' 5 1), .s (w.extractLsb' 4 1),
   .s (w.extractLsb' 3 1), .s (w.extractLsb' 2 1), .s (w.extractLsb' 1 1), .s (w.extractLsb' 0 1)]

/-- `Sb*n`: n copies of `Sb` (R72). -/
def repeatedTrace (b : Sample) (n : Nat) : List TraceOp :=
  List.replicate n (.s b)

/-- The eight SAMPLE words of `W` (R72). -/
def windowWords (w : Window) : List InWord :=
  (windowTrace w).map assemble

end Sys2Proof.Machine
end

