-- ==== Sys2Proof/Safety.lean ====
section
/-!
DEFINITION. What holds of a safe run, in the terms claims use: the invariant of the registers (10_state.md R23), the
shape of the event stream (43_engine.md R123), the registers alone, apart from the model's own record, and the abstract view
of the buffer (10_state.md R31).
-/

namespace Sys2Proof.Machine

open Sys2Proof

/-- R23 (b): "if `lock != Unknown` then `cnt` is between 0 and 7". (a) and (c) hold by the types. -/
abbrev State.Inv (s : State) : Prop :=
  s.lock ≠ .unknown → s.cnt ≤ 7

/-- The encoding of the frame an event leaves open: none after `FrameEnded` (R123). -/
def Event.leavesOpen (e : Event) : Option LockedEncoding :=
  match e with
  | .frameStarted enc => some enc
  | .bit _ enc => some enc
  | .frameEnded => none

/-- May an event follow while the frame of `open_` (or none) is open (R123)? A frame starts where none is open, or, if
the stream runs across RESETs, after a RESET cut an open one short without an event (R114); a bit carries its frame's
encoding; only an open frame ends. -/
def Event.mayFollow (e : Event) (acrossResets : Bool) (open_ : Option LockedEncoding) : Bool :=
  match e with
  | .frameStarted _ => acrossResets || open_ == none
  | .bit _ enc => open_ == some enc
  | .frameEnded => open_.isSome

/-- The shape of an event stream from a point where the frame of `open_` (or none) is open (R123). -/
def shaped (acrossResets : Bool) (open_ : Option LockedEncoding) : List Event → Bool
  | [] => true
  | e :: es => e.mayFollow acrossResets open_ && shaped acrossResets e.leavesOpen es

/-- The encoding of the frame an event stream leaves open. -/
def openAfter (open_ : Option LockedEncoding) : List Event → Option LockedEncoding
  | [] => open_
  | e :: es => openAfter e.leavesOpen es

/-- The event stream has the shape of R123, and while the engine is LOCKED the frame left open is the locked one
(R110, R119). A RESET may leave the stream's last frame open while the engine is SEARCHING (R114). -/
abbrev State.Framed (s : State) : Prop :=
  shaped true none s.events = true ∧ ∀ e, lockedOf s.lock = some e → openAfter none s.events = some e

/-- The block's own registers `(sr, cnt, lock)` (R20 to R22). -/
def State.registers (s : State) : Window × Fin 9 × Encoding :=
  (s.sr, s.cnt, s.lock)

/-- Is this input word a SAMPLE word, `001s` (R66)? -/
def isSampleWord (w : InWord) : Bool :=
  w &&& 0xE#4 == 0x2#4

/-- Is this input word an IDLE word, `000-` (R66)? -/
def isIdleWord (w : InWord) : Bool :=
  w &&& 0xE#4 == 0x0#4

/-- The samples gathered toward the next window, oldest first: the abstract view of `sr` and `cnt` (10_state.md R31). -/
def pending (sr : Window) (cnt : Fin 9) : List Bool :=
  (List.range cnt.val).reverse.map fun i => sr.getLsbD i

end Sys2Proof.Machine
end

