-- ==== Sys2Proof/Certificates/Slice0/Obligations.lean ====
section
/-!
DEFINITION. The statements for the provers, in the order of OBLIGATIONS.json.
Where a statement rests on one of the spec's own decisions (D<n> of 92_eei_decisions.md) or on a log entry of this
model, its docstring says so.
-/

section

open Sys2Proof Sys2Proof.Machine

/-! ## Encodings -/

/-- 30_encoding.md R66 (decision D13): which operation each input word selects, by match and mask; the bits outside the
mask are ignored but for `sample` (93 U7), and the five patterns cover all sixteen words. -/
def Obligations.InputWordMap : Prop :=
  ∀ w : InWord,
    (w &&& 0x8#4 = 0x8#4 → decode (.input w) = .reset) ∧
    (w &&& 0xE#4 = 0x4#4 → decode (.input w) = .frameEnd) ∧
    (w &&& 0xE#4 = 0x6#4 → decode (.input w) = .frameEndSample (w.extractLsb' 0 1)) ∧
    (w &&& 0xE#4 = 0x2#4 → decode (.input w) = .sample (w.extractLsb' 0 1)) ∧
    (w &&& 0xE#4 = 0x0#4 → decode (.input w) = .idle) ∧
    (w &&& 0x8#4 = 0x8#4 ∨ w &&& 0xE#4 = 0x4#4 ∨ w &&& 0xE#4 = 0x6#4 ∨ w &&& 0xE#4 = 0x2#4 ∨ w &&& 0xE#4 = 0x0#4)

/-- A few words written out from 30_encoding.md R71 and the `encoding` column of opcode_table.json. -/
def Obligations.DecodedWords : Prop :=
  decode (.input 0b0010#4) = .sample 0#1 ∧ decode (.input 0b0011#4) = .sample 1#1 ∧
  decode (.input 0b0100#4) = .frameEnd ∧ decode (.input 0b0110#4) = .frameEndSample 0#1 ∧
  decode (.input 0b0111#4) = .frameEndSample 1#1 ∧ decode (.input 0b1000#4) = .reset ∧
  decode (.input 0b0000#4) = .idle ∧ decode (.window .cls 0b00011111#8) = .classifyA1F ∧
  decode (.window .cls 0b10100001#8) = .classifyBA1 ∧ decode (.window .cls 0b01111111#8) = .classifyDefault 0x7F#8 ∧
  decode (.window .deca 0b11110011#8) = .decodeAF3 ∧ decode (.window .deca 0b11110010#8) = .decodeADefault 0xF2#8 ∧
  decode (.window .decb 0b10010001#8) = .decodeB90 1#1 ∧ decode (.window .decb 0b01010010#8) = .decodeBDefault 0x52#8

/-- Decode and encode agree on every well-formed instruction, with every operand at every value (30_encoding.md R66,
R73). -/
def Obligations.DecodeEncode : Prop :=
  ∀ i : Instr, i.wf = true → decode (encode i) = i

/-- Every code is decoded to a well-formed instruction; that instruction's code is the window itself, or the canonical
word of the input word, ignored bits 0 (30_encoding.md R66, R69, R73). -/
def Obligations.EncodeDecode : Prop :=
  (∀ c : Code, (decode c).wf = true) ∧
  (∀ (t : Table) (w : Window), encode (decode (.window t w)) = .window t w) ∧
  (∀ w : InWord, encode (decode (.input w)) =
    .input (if w &&& 0x8#4 = 0x8#4 then 0x8 else if w &&& 0xE#4 = 0x4#4 then 0x4 else if w &&& 0xE#4 = 0x0#4 then 0x0 else w))

/-- 30_encoding.md R64 (decisions D2, D17): the words of the eight outputs, and that no other word occurs. -/
def Obligations.OutputWords : Prop :=
  outWord none = 0x00#5 ∧ outWord (some (.frameStarted .encodingA)) = 0x0A#5 ∧
  outWord (some (.frameStarted .encodingB)) = 0x0C#5 ∧ outWord (some (.bit 0#1 .encodingA)) = 0x12#5 ∧
  outWord (some (.bit 1#1 .encodingA)) = 0x13#5 ∧ outWord (some (.bit 0#1 .encodingB)) = 0x14#5 ∧
  outWord (some (.bit 1#1 .encodingB)) = 0x15#5 ∧ outWord (some .frameEnded) = 0x18#5 ∧
  (∀ e : Option Event, outWord e ∈ [0x00#5, 0x0A#5, 0x0C#5, 0x12#5, 0x13#5, 0x14#5, 0x15#5, 0x18#5]) ∧
  (∀ e f : Option Event, outWord e = outWord f → e = f)

/-- 30_encoding.md R71 (decision D19): the words of the seven mnemonics; disassembling an assembled mnemonic gives it back;
and reassembling any of the sixteen words gives a word of the same operation. -/
def Obligations.TraceNotation : Prop :=
  [TraceOp.s 0#1, .s 1#1, .fe, .fes 0#1, .fes 1#1, .rst, .nop].map assemble =
    [0x2#4, 0x3#4, 0x4#4, 0x6#4, 0x7#4, 0x8#4, 0x0#4] ∧
  (∀ m : TraceOp, disassemble (assemble m) = m) ∧
  (∀ w : InWord, decode (.input (assemble (disassemble w))) = decode (.input w))

/-! ## The tables -/

/-- 41_classifier.md R91, R92, R93: the three classes of `CLS`, and their sizes. -/
def Obligations.ClassifierTable : Prop :=
  (∀ w : Window, romRead .cls w = .encoding .encodingA ↔ w = 0x1F ∨ w = 0x3F ∨ w = 0x9F) ∧
  (∀ w : Window, romRead .cls w = .encoding .encodingB ↔
    w = 0x50 ∨ w = 0x70 ∨ w = 0xA0 ∨ w = 0xA1 ∨ w = 0xB0 ∨ w = 0xE0 ∨ w = 0xE1 ∨ w = 0xF0 ∨ w = 0xF1) ∧
  (∀ w : Window, romRead .cls w = .encoding .unknown ↔
    ¬ (w = 0x1F ∨ w = 0x3F ∨ w = 0x9F ∨ w = 0x50 ∨ w = 0x70 ∨ w = 0xA0 ∨ w = 0xA1 ∨ w = 0xB0 ∨ w = 0xE0 ∨ w = 0xE1 ∨
       w = 0xF0 ∨ w = 0xF1)) ∧
  ((List.range 256).filter fun n => romRead .cls (BitVec.ofNat 8 n) = .encoding .unknown).length = 244

/-- 42_demodulator.md R100: DECODE_A of every window, six ones and 250 zeros. -/
def Obligations.DecodeATable : Prop :=
  (∀ w : Window, romRead .deca w = .bit 1#1 ↔
    w = 0xF0 ∨ w = 0xF1 ∨ w = 0xF3 ∨ w = 0xF8 ∨ w = 0xF9 ∨ w = 0xFC) ∧
  (∀ w : Window, romRead .deca w = .bit 0#1 ↔
    ¬ (w = 0xF0 ∨ w = 0xF1 ∨ w = 0xF3 ∨ w = 0xF8 ∨ w = 0xF9 ∨ w = 0xFC)) ∧
  ((List.range 256).filter fun n => romRead .deca (BitVec.ofNat 8 n) = .bit 0#1).length = 250

/-- 42_demodulator.md R101: DECODE_B of every window by its two nibbles, `hi = w[7:4]` and `lo = w[3:0]`, eighteen ones and
238 zeros. -/
def Obligations.DecodeBTable : Prop :=
  (∀ w hi lo : Window, hi = w >>> 4 → lo = w &&& 0x0F →
    (romRead .decb w = .bit 1#1 ↔
      (hi = 0x5 ∨ hi = 0x7 ∨ hi = 0x9 ∨ hi = 0xA ∨ hi = 0xB ∨ hi = 0xC ∨ hi = 0xD ∨ hi = 0xE ∨ hi = 0xF) ∧
      (lo = 0x0 ∨ lo = 0x1)) ∧
    (romRead .decb w = .bit 0#1 ↔
      ¬ ((hi = 0x5 ∨ hi = 0x7 ∨ hi = 0x9 ∨ hi = 0xA ∨ hi = 0xB ∨ hi = 0xC ∨ hi = 0xD ∨ hi = 0xE ∨ hi = 0xF) ∧
        (lo = 0x0 ∨ lo = 0x1)))) ∧
  ((List.range 256).filter fun n => romRead .decb (BitVec.ofNat 8 n) = .bit 0#1).length = 238

/-- 42_demodulator.md R106, R108 and 41_classifier.md R97, which the spec derives from its lists: checks on a
transcription. -/
def Obligations.TableRelations : Prop :=
  (∀ w : Window, classify w = .encodingB → decodeB w = 1#1) ∧
  (∀ w : Window, classify w = .encodingA → decodeA w = 0#1 ∧ decodeB w = 0#1) ∧
  (∀ w : Window, decodeA w = 1#1 ∧ decodeB w = 1#1 ↔ w = 0xF0 ∨ w = 0xF1) ∧
  (∀ w : Window, w = 0x00 ∨ w = 0xFF → decodeA w = 0#1 ∧ decodeB w = 0#1 ∧ classify w = .unknown) ∧
  (∀ k : Fin 8, classify (0x1F ^^^ 1#8 <<< k.val) = .encodingA ↔ k = 5 ∨ k = 7) ∧
  (∀ k : Fin 8, decodeA (0xF0 ^^^ 1#8 <<< k.val) = 1#1 ↔ k = 0 ∨ k = 3) ∧
  (∀ k : Fin 8, decodeB (0x50 ^^^ 1#8 <<< k.val) = 1#1 ↔ k = 0 ∨ k = 5 ∨ k = 7)

/-- 41_classifier.md R95: totality (the classifier's answer is always an Encoding, exactly one of three; a decode table's
always a bit), disjointness and the strict subset, and idempotence: whenever two steps
consult one table at one window, they get the same entry (the record of the look-up is log entry 4). -/
def Obligations.TablesTotalDisjointIdempotent : Prop :=
  (∀ w : Window, ∃ e : Encoding, romRead .cls w = .encoding e ∧ ∀ f : Encoding, romRead .cls w = .encoding f → f = e) ∧
  (∀ w : Window, ∃ b : LogicalBit, romRead .deca w = .bit b) ∧
  (∀ w : Window, ∃ b : LogicalBit, romRead .decb w = .bit b) ∧
  (∀ w : Window, ¬ (romRead .cls w = .encoding .encodingA ∧ romRead .cls w = .encoding .encodingB)) ∧
  (∃ w : Window, romRead .cls w ≠ .encoding .encodingA ∧ romRead .cls w ≠ .encoding .encodingB) ∧
  (∀ (s t u v : State) (r q : TableRead),
    step s = .next t → step u = .next v → t.tableRead = some r → v.tableRead = some q →
    r.table = q.table → r.window = q.window → r.entry = q.entry)

/-! ## The rows of the tables as instructions

That a row run by itself reads its entry and changes nothing else is log entry 5, a DESIGN CHOICE: the spec gives the
rows as entries of pure functions (R90, R100, R101), reached inside SAMPLE. -/

/-- 41_classifier.md R90, row by row of opcode_table.json (log entry 5). -/
def Obligations.ClassifierRows : Prop :=
  ∀ s : State,
    exec .classifyA1F s = .next { s with tableRead := some ⟨.cls, 0x1F, .encoding .encodingA⟩ } ∧
    exec .classifyA3F s = .next { s with tableRead := some ⟨.cls, 0x3F, .encoding .encodingA⟩ } ∧
    exec .classifyA9F s = .next { s with tableRead := some ⟨.cls, 0x9F, .encoding .encodingA⟩ } ∧
    exec .classifyB50 s = .next { s with tableRead := some ⟨.cls, 0x50, .encoding .encodingB⟩ } ∧
    exec .classifyB70 s = .next { s with tableRead := some ⟨.cls, 0x70, .encoding .encodingB⟩ } ∧
    exec .classifyBA0 s = .next { s with tableRead := some ⟨.cls, 0xA0, .encoding .encodingB⟩ } ∧
    exec .classifyBA1 s = .next { s with tableRead := some ⟨.cls, 0xA1, .encoding .encodingB⟩ } ∧
    exec .classifyBB0 s = .next { s with tableRead := some ⟨.cls, 0xB0, .encoding .encodingB⟩ } ∧
    exec .classifyBE0 s = .next { s with tableRead := some ⟨.cls, 0xE0, .encoding .encodingB⟩ } ∧
    exec .classifyBE1 s = .next { s with tableRead := some ⟨.cls, 0xE1, .encoding .encodingB⟩ } ∧
    exec .classifyBF0 s = .next { s with tableRead := some ⟨.cls, 0xF0, .encoding .encodingB⟩ } ∧
    exec .classifyBF1 s = .next { s with tableRead := some ⟨.cls, 0xF1, .encoding .encodingB⟩ } ∧
    ∀ w : Window, (Instr.classifyDefault w).wf = true →
      exec (.classifyDefault w) s = .next { s with tableRead := some ⟨.cls, w, .encoding .unknown⟩ }

/-- 42_demodulator.md R100, row by row of opcode_table.json (log entry 5). -/
def Obligations.DecodeARows : Prop :=
  ∀ s : State,
    exec .decodeAF0 s = .next { s with tableRead := some ⟨.deca, 0xF0, .bit 1⟩ } ∧
    exec .decodeAF1 s = .next { s with tableRead := some ⟨.deca, 0xF1, .bit 1⟩ } ∧
    exec .decodeAF3 s = .next { s with tableRead := some ⟨.deca, 0xF3, .bit 1⟩ } ∧
    exec .decodeAF8 s = .next { s with tableRead := some ⟨.deca, 0xF8, .bit 1⟩ } ∧
    exec .decodeAF9 s = .next { s with tableRead := some ⟨.deca, 0xF9, .bit 1⟩ } ∧
    exec .decodeAFC s = .next { s with tableRead := some ⟨.deca, 0xFC, .bit 1⟩ } ∧
    ∀ w : Window, (Instr.decodeADefault w).wf = true →
      exec (.decodeADefault w) s = .next { s with tableRead := some ⟨.deca, w, .bit 0⟩ }

/-- 42_demodulator.md R101, row by row of opcode_table.json (log entry 5): each pair's second window is one above its
first. -/
def Obligations.DecodeBRows : Prop :=
  ∀ (s : State) (lo : BitVec 1),
    exec (.decodeB50 lo) s = .next { s with tableRead := some ⟨.decb, 0x50 + lo.setWidth 8, .bit 1⟩ } ∧
    exec (.decodeB70 lo) s = .next { s with tableRead := some ⟨.decb, 0x70 + lo.setWidth 8, .bit 1⟩ } ∧
    exec (.decodeB90 lo) s = .next { s with tableRead := some ⟨.decb, 0x90 + lo.setWidth 8, .bit 1⟩ } ∧
    exec (.decodeBA0 lo) s = .next { s with tableRead := some ⟨.decb, 0xA0 + lo.setWidth 8, .bit 1⟩ } ∧
    exec (.decodeBB0 lo) s = .next { s with tableRead := some ⟨.decb, 0xB0 + lo.setWidth 8, .bit 1⟩ } ∧
    exec (.decodeBC0 lo) s = .next { s with tableRead := some ⟨.decb, 0xC0 + lo.setWidth 8, .bit 1⟩ } ∧
    exec (.decodeBD0 lo) s = .next { s with tableRead := some ⟨.decb, 0xD0 + lo.setWidth 8, .bit 1⟩ } ∧
    exec (.decodeBE0 lo) s = .next { s with tableRead := some ⟨.decb, 0xE0 + lo.setWidth 8, .bit 1⟩ } ∧
    exec (.decodeBF0 lo) s = .next { s with tableRead := some ⟨.decb, 0xF0 + lo.setWidth 8, .bit 1⟩ } ∧
    ∀ w : Window, (Instr.decodeBDefault w).wf = true →
      exec (.decodeBDefault w) s = .next { s with tableRead := some ⟨.decb, w, .bit 0⟩ }

/-- 20_memory.md R41, R45, 30_encoding.md R73: whichever row a window selects in a table, it reads exactly the entry
whose index is the window, and nothing else changes (log entry 5). -/
def Obligations.RowOfWindowReadsItsEntry : Prop :=
  ∀ (t : Table) (w : Window) (s : State),
    exec (decode (.window t w)) s = .next { s with tableRead := some ⟨t, w, romRead t w⟩ }

/-! ## The five input operations -/

/-- 43_engine.md R111 (with the spec's decisions D5, D6, D7, D9): everything SAMPLE does. `w` is WSHIFT as
40_windower.md R80's arithmetic; the four clauses are the four ends of R111's pseudocode, with the output words of
30_encoding.md R64. What a clause does not name is unchanged. -/
def Obligations.SampleResult : Prop :=
  ∀ (s : State) (b : Sample) (w : Window), w = BitVec.ofNat 8 (s.sr.toNat * 2 + b.toNat) →
    (s.cnt.val < 7 → ∃ n : Fin 9, n.val = s.cnt.val + 1 ∧
      exec (.sample b) s = .next { s with sr := w, cnt := n }) ∧
    (7 ≤ s.cnt.val → s.lock = .unknown → classify w = .unknown →
      exec (.sample b) s = .next { s with sr := w, cnt := 8, tableRead := some ⟨.cls, w, .encoding .unknown⟩ }) ∧
    (7 ≤ s.cnt.val → s.lock = .unknown → classify w = .encodingA →
      exec (.sample b) s = .next { s with
        sr := w, cnt := 0, lock := .encodingA, out := 0x0A, events := s.events ++ [.frameStarted .encodingA],
        tableRead := some ⟨.cls, w, .encoding .encodingA⟩ }) ∧
    (7 ≤ s.cnt.val → s.lock = .unknown → classify w = .encodingB →
      exec (.sample b) s = .next { s with
        sr := w, cnt := 0, lock := .encodingB, out := 0x0C, events := s.events ++ [.frameStarted .encodingB],
        tableRead := some ⟨.cls, w, .encoding .encodingB⟩ }) ∧
    (7 ≤ s.cnt.val → s.lock = .encodingA →
      exec (.sample b) s = .next { s with
        sr := w, cnt := 0, out := 0b1001#4 ++ decodeA w, events := s.events ++ [.bit (decodeA w) .encodingA],
        tableRead := some ⟨.deca, w, .bit (decodeA w)⟩ }) ∧
    (7 ≤ s.cnt.val → s.lock = .encodingB →
      exec (.sample b) s = .next { s with
        sr := w, cnt := 0, out := 0b1010#4 ++ decodeB w, events := s.events ++ [.bit (decodeB w) .encodingB],
        tableRead := some ⟨.decb, w, .bit (decodeB w)⟩ })

/-- 43_engine.md R112 (with the spec's decisions D10, D11): while LOCKED the frame ends and a partial window is dropped;
while SEARCHING nothing at all changes. -/
def Obligations.FrameEndResult : Prop :=
  ∀ s : State,
    (s.lock ≠ .unknown → exec .frameEnd s =
      .next { s with lock := .unknown, cnt := 0, out := 0x18, events := s.events ++ [.frameEnded] }) ∧
    (s.lock = .unknown → exec .frameEnd s = .next s)

/-- 43_engine.md R113 (with the spec's decision D13): while LOCKED the frame ends and the sample is the first of the next
search; while SEARCHING it is exactly SAMPLE, which completes. -/
def Obligations.FrameEndSampleResult : Prop :=
  ∀ (s : State) (b : Sample),
    (s.lock ≠ .unknown → exec (.frameEndSample b) s =
      .next { s with sr := BitVec.ofNat 8 (s.sr.toNat * 2 + b.toNat), cnt := 1, lock := .unknown, out := 0x18,
                     events := s.events ++ [.frameEnded] }) ∧
    (s.lock = .unknown → ∃ t : State, exec (.frameEndSample b) s = .next t ∧ exec (.sample b) s = .next t)

/-- 43_engine.md R114, 70_reset_and_hazards.md R150 (with the spec's decisions D12, D15): the three registers take their
reset values, from any state, and nothing is emitted. -/
def Obligations.ResetResult : Prop :=
  ∀ s : State, exec .reset s = .next { s with sr := 0x00, cnt := 0, lock := .unknown }

/-- 43_engine.md R115 (with the spec's decision D18): IDLE changes nothing. -/
def Obligations.IdleResult : Prop :=
  ∀ s : State, exec .idle s = .next s

/-- The frame of every instruction. None touches the words still to be presented, takes back an event, or changes the
output word without emitting. FRAME_END and IDLE keep `sr` (R112, R115); they and RESET consult no table (R52), and RESET
emits nothing (R114). A row of a table writes no register and emits nothing (R90, R105; log entry 5). While LOCKED no
SAMPLE writes `lock` (R119). -/
def Obligations.InstructionFrame : Prop :=
  ∀ (i : Instr) (s t : State), exec i s = .next t →
    t.input = s.input ∧
    s.events <+: t.events ∧
    (t.events = s.events → t.out = s.out) ∧
    (i = .frameEnd ∨ i = .idle → t.sr = s.sr ∧ t.tableRead = s.tableRead) ∧
    (i = .reset → t.events = s.events ∧ t.tableRead = s.tableRead) ∧
    (∀ (tb : Table) (w : Window), encode i = .window tb w → t.registers = s.registers ∧ t.events = s.events) ∧
    (∀ b : Sample, i = .sample b → s.lock ≠ .unknown → t.lock = s.lock)

/-! ## The step -/

/-- 43_engine.md R126: a step takes the next input word, decodes it and performs the operation, with no event out and no
table consulted yet. Where no word is presented the step is an IDLE step (R140; log entry 2, DEDUCED). -/
def Obligations.StepRunsDecoded : Prop :=
  ∀ s : State,
    (∀ (w : InWord) (rest : List InWord), s.input = w :: rest →
      step s = exec (decode (.input w)) { s with input := rest, out := 0x00, tableRead := none }) ∧
    (s.input = [] → step s = exec .idle { s with out := 0x00, tableRead := none })

/-- 43_engine.md R120, 60_exceptions.md R130: every state accepts every input word; no operation faults or refuses in any
state, so a step always gives a next state, and so does any number of steps. -/
def Obligations.NoTerminalState : Prop :=
  (∀ s : State, ∃ t : State, step s = .next t) ∧
  (∀ (i : Instr) (s : State), ∃ t : State, exec i s = .next t) ∧
  (∀ (k : Nat) (s : State), ∃ t : State, core.run k s = .next t)

/-- 43_engine.md R122, R126, 30_encoding.md R64: a step emits at most one event, and the output word codes exactly
that. -/
def Obligations.AtMostOneEvent : Prop :=
  ∀ s t : State, step s = .next t →
    ∃ e : Option Event, t.events = s.events ++ e.toList ∧ t.out = outWord e

/-- 60_exceptions.md R141: everything a step tells the outside is one of the three events, and each has its one cause,
stated of the state before the step and its input word. -/
def Obligations.EventCauses : Prop :=
  ∀ s t : State, step s = .next t →
    (t.events = s.events ∨ ∃ e : Event, t.events = s.events ++ [e]) ∧
    (∀ e : LockedEncoding, t.events = s.events ++ [.frameStarted e] ↔
      s.lock = .unknown ∧ 7 ≤ s.cnt.val ∧
      ∃ (w : InWord) (rest : List InWord), s.input = w :: rest ∧ w &&& 0xA#4 = 0x2#4 ∧
        classify (wshift s.sr (w.extractLsb' 0 1)) = encodingOf e) ∧
    (∀ e : LockedEncoding, t.events = s.events ++ [.frameStarted e] → t.lock = encodingOf e) ∧
    (∀ (b : LogicalBit) (e : LockedEncoding), t.events = s.events ++ [.bit b e] ↔
      s.lock = encodingOf e ∧ 7 ≤ s.cnt.val ∧
      ∃ (w : InWord) (rest : List InWord), s.input = w :: rest ∧ w &&& 0xE#4 = 0x2#4 ∧
        decodeBit e (wshift s.sr (w.extractLsb' 0 1)) = b) ∧
    (t.events = s.events ++ [.frameEnded] ↔
      s.lock ≠ .unknown ∧ ∃ (w : InWord) (rest : List InWord), s.input = w :: rest ∧ w &&& 0xC#4 = 0x4#4)

/-- 43_engine.md R119, and the "Only FRAME_END, FRAME_END_SAMPLE and RESET" of R116: from LOCKED the next `lock` is Unknown exactly when the input word is a FRAME_END,
FRAME_END_SAMPLE or RESET; otherwise it is unchanged; and the classifier is not consulted. -/
def Obligations.LockHeldUntilFrameEndOrReset : Prop :=
  ∀ s t : State, step s = .next t → s.lock ≠ .unknown →
    (t.lock = .unknown ↔
      ∃ (w : InWord) (rest : List InWord), s.input = w :: rest ∧ (w &&& 0xC#4 = 0x4#4 ∨ w &&& 0x8#4 = 0x8#4)) ∧
    (t.lock ≠ .unknown → t.lock = s.lock) ∧
    (∀ r : TableRead, t.tableRead = some r → r.table ≠ .cls)

/-- 41_classifier.md R96: `CLS` is consulted exactly in a SAMPLE step, alone or as the second half of
FRAME_END_SAMPLE, in which a window is complete while the engine is SEARCHING; while LOCKED no step starts a frame or
changes the locked encoding to the other one (the record of the look-up is log entry 4). -/
def Obligations.ClassifierConsulted : Prop :=
  ∀ s t : State, step s = .next t →
    ((∃ r : TableRead, t.tableRead = some r ∧ r.table = .cls) ↔
      s.lock = .unknown ∧ 7 ≤ s.cnt.val ∧
      ∃ (w : InWord) (rest : List InWord), s.input = w :: rest ∧ w &&& 0xA#4 = 0x2#4) ∧
    (s.lock ≠ .unknown →
      (∀ e : LockedEncoding, t.events ≠ s.events ++ [.frameStarted e]) ∧ (t.lock = s.lock ∨ t.lock = .unknown))

/-- 42_demodulator.md R107: a decode table is consulted exactly in a SAMPLE step in which a window is complete while the
engine is LOCKED, and it is the one for `lock` (the record of the look-up is log entry 4). -/
def Obligations.DemodulatorConsulted : Prop :=
  ∀ s t : State, step s = .next t → ∀ e : LockedEncoding,
    ((∃ r : TableRead, t.tableRead = some r ∧ r.table = decodeTable e) ↔
      s.lock = encodingOf e ∧ 7 ≤ s.cnt.val ∧
      ∃ (w : InWord) (rest : List InWord), s.input = w :: rest ∧ w &&& 0xE#4 = 0x2#4)

/-- 30_encoding.md R73, 20_memory.md R41, R45: a table row reaches a run through the table read of a SAMPLE step, and
what that step read is what the row of the complete window gives: the window is the new `sr`, and running the decoded
row gives the same read (log entries 4, 5). -/
def Obligations.StepReadsTheRow : Prop :=
  ∀ (s t : State) (r : TableRead), step s = .next t → t.tableRead = some r →
    r.window = t.sr ∧
    ∃ u : State, exec (decode (.window r.table r.window)) s = .next u ∧ u.tableRead = some r

/-- Log entries 5 and 6, the model's choice: a window of the table placed to be run next is consulted by the very next
step, in its home table; an input word placed is the word that step runs. -/
def Obligations.PlacedWordRuns : Prop :=
  (∀ (s t : State) (n : Nat), 16 ≤ n → n < 256 → step (s.withFetchWord 8 n) = .next t →
    t.tableRead = some ⟨windowHome (BitVec.ofNat 8 n), BitVec.ofNat 8 n,
      romRead (windowHome (BitVec.ofNat 8 n)) (BitVec.ofNat 8 n)⟩) ∧
  (∀ (s : State) (n : Nat), n < 16 →
    step (s.withFetchWord 8 n) = exec (decode (.input (BitVec.ofNat 4 n))) { s with out := 0x00, tableRead := none })

/-- 43_engine.md R124, 10_state.md R32: the step is a function of `(sr, cnt, lock)` and the input word; the model's own
record of past outputs is never read. -/
def Obligations.RecordNeverRead : Prop :=
  ∀ s u s' u' : State, s.registers = u.registers → s.input = u.input → step s = .next s' → step u = .next u' →
    s'.registers = u'.registers ∧ s'.input = u'.input ∧ s'.out = u'.out ∧ s'.tableRead = u'.tableRead ∧
    ∃ new : List Event, s'.events = s.events ++ new ∧ u'.events = u.events ++ new

/-! ## Reset and the invariants -/

/-- 10_state.md R30, 43_engine.md R110 (with the spec's decision D15): the reset state, and that a RESET step reaches its
registers from every state and puts no event out. That `input` and `events` are empty at reset is log entries 1
and 3. -/
def Obligations.ResetState : Prop :=
  State.reset.lock = .unknown ∧ State.reset.cnt = 0 ∧ State.reset.sr = 0x00 ∧ State.reset.out = 0x00 ∧
  State.reset.input = [] ∧ State.reset.events = [] ∧ State.reset.tableRead = none ∧
  ∀ (s : State) (w : InWord) (rest : List InWord), s.input = w :: rest → w &&& 0x8#4 = 0x8#4 →
    ∃ t : State, step s = .next t ∧ t.registers = State.reset.registers ∧ t.events = s.events ∧ t.out = 0x00

/-- Both invariants hold at reset: 10_state.md R23 (b), and the shape of the event stream (43_engine.md R123). -/
def Obligations.InvAtReset : Prop :=
  State.reset.Inv ∧ State.reset.Framed

/-- 10_state.md R23, 43_engine.md R125, which the spec derives: every step keeps "while LOCKED the count is at most 7",
and at 8 the engine is SEARCHING. -/
def Obligations.StepKeepsInv : Prop :=
  ∀ s t : State, s.Inv → step s = .next t → t.Inv ∧ (t.cnt = 8 → t.lock = .unknown)

/-- 43_engine.md R123, R119, which the spec derives: every step keeps the shape of the event stream, with the open frame
that of `lock`. -/
def Obligations.StepKeepsFramed : Prop :=
  ∀ s t : State, s.Framed → step s = .next t → t.Framed

/-- 43_engine.md R123, which the spec derives: over any run without a RESET, from any state, the new events go on from the
open frame of `lock`: each frame is one `FrameStarted(e)`, bits of the same `e`, and `FrameEnded` before the next; and
the frame they leave open is that of the new `lock`. -/
def Obligations.FramesBetweenResets : Prop :=
  ∀ (k : Nat) (s t : State), (∀ w ∈ s.input.take k, w &&& 0x8#4 ≠ 0x8#4) → core.run k s = .next t →
    ∃ new : List Event, t.events = s.events ++ new ∧ shaped false (lockedOf s.lock) new = true ∧
      openAfter (lockedOf s.lock) new = lockedOf t.lock

/-! ## Windows -/

/-- 40_windower.md R85, 30_encoding.md R72 (with the spec's decisions D5, D6, D7, D9): from any state with `cnt = 0`, the
eight samples of any window, earliest first, make exactly that window, whatever `sr` held, and it is classified
(SEARCHING) or decoded (LOCKED). -/
def Obligations.WindowDelivered : Prop :=
  ∀ (s : State) (w : Window) (rest : List InWord), s.cnt = 0 → s.input = windowWords w ++ rest →
    ∃ t : State, core.run 8 s = .next t ∧ t.sr = w ∧ t.input = rest ∧
      (s.lock = .unknown → classify w = .unknown →
        t.lock = .unknown ∧ t.cnt = 8 ∧ t.events = s.events ∧ t.out = 0x00) ∧
      (∀ e : LockedEncoding, s.lock = .unknown → classify w = encodingOf e →
        t.lock = encodingOf e ∧ t.cnt = 0 ∧ t.events = s.events ++ [.frameStarted e]) ∧
      (∀ e : LockedEncoding, s.lock = encodingOf e →
        t.lock = encodingOf e ∧ t.cnt = 0 ∧ t.events = s.events ++ [.bit (decodeBit e w) e])

/-- 10_state.md R29, R31, which the spec derives: the bits of `sr` older than the last `cnt` samples are dead. Two states
with the same `lock`, `cnt`, pending samples and input step to states that are again so, with the same outputs. -/
def Obligations.DeadBits : Prop :=
  ∀ s u s' u' : State,
    s.lock = u.lock → s.cnt = u.cnt → pending s.sr s.cnt = pending u.sr u.cnt → s.input = u.input →
    step s = .next s' → step u = .next u' →
    s'.lock = u'.lock ∧ s'.cnt = u'.cnt ∧ pending s'.sr s'.cnt = pending u'.sr u'.cnt ∧ s'.input = u'.input ∧
    s'.out = u'.out ∧ s'.tableRead = u'.tableRead

/-- 10_state.md R31, which the spec derives: how a SAMPLE changes the pending samples: appended while no window is
complete; emptied by a lock or a bit; while SEARCHING a full list drops its oldest and appends. -/
def Obligations.PendingSamples : Prop :=
  ∀ (s t : State) (b : Sample), exec (.sample b) s = .next t →
    (s.cnt.val < 8 → t.cnt ≠ 0 → pending t.sr t.cnt = pending s.sr s.cnt ++ [b == 1#1]) ∧
    (s.cnt = 8 → t.cnt ≠ 0 → pending t.sr t.cnt = (pending s.sr s.cnt).tail ++ [b == 1#1]) ∧
    (t.events ≠ s.events → pending t.sr t.cnt = [])

/-- 40_windower.md R86, 43_engine.md R118, R123 (with the spec's decision D7): while LOCKED from `cnt = 0`, any number of
SAMPLE steps gives one bit per eight, rounded down, all of the locked encoding, and the engine stays LOCKED. -/
def Obligations.LockedCadence : Prop :=
  ∀ (ws rest : List InWord) (s : State) (e : LockedEncoding),
    (∀ w ∈ ws, isSampleWord w = true) → s.input = ws ++ rest → s.lock = encodingOf e → s.cnt = 0 →
    ∃ (t : State) (bits : List LogicalBit), core.run ws.length s = .next t ∧ t.lock = s.lock ∧
      t.cnt.val = ws.length % 8 ∧ bits.length = ws.length / 8 ∧ t.events = s.events ++ bits.map fun b => .bit b e

/-- 40_windower.md R86, 70_reset_and_hazards.md R153 (with the spec's decision D6): from an empty buffer while SEARCHING,
the first seven SAMPLE steps complete no window and emit nothing; and as long as no event comes, every later one
completes a window, so that it consults `CLS`. -/
def Obligations.SearchCadence : Prop :=
  ∀ (ws rest : List InWord) (s : State),
    (∀ w ∈ ws, isSampleWord w = true) → s.input = ws ++ rest → s.lock = .unknown → s.cnt = 0 →
    (ws.length < 8 → ∃ t : State, core.run ws.length s = .next t ∧ t.lock = .unknown ∧ t.cnt.val = ws.length ∧
      t.events = s.events ∧ (ws ≠ [] → t.tableRead = none)) ∧
    (∀ t : State, 8 ≤ ws.length → core.run ws.length s = .next t → t.events = s.events →
      t.cnt = 8 ∧ t.lock = .unknown ∧ ∃ r : TableRead, t.tableRead = some r ∧ r.table = .cls)

/-- 43_engine.md R115 (with the spec's decision D18): "Any number of IDLE steps anywhere in a trace changes neither the
final state nor the sequence of events." -/
def Obligations.IdleStepsDoNotMatter : Prop :=
  ∀ (s : State) (ws : List InWord),
    ∃ t u : State,
      core.run ws.length { s with input := ws } = .next t ∧
      core.run (ws.filter fun w => !isIdleWord w).length { s with input := ws.filter fun w => !isIdleWord w } = .next u ∧
      t.registers = u.registers ∧ t.events = u.events

/-- 70_reset_and_hazards.md R151, R153 (with the spec's decision D15): once the input begins with a RESET word, the state
a run started in does not matter: the registers, the output words and the new events are the same. -/
def Obligations.StartStateForgotten : Prop :=
  ∀ (k : Nat) (s u s' u' : State) (w : InWord) (rest : List InWord),
    s.input = w :: rest → u.input = w :: rest → w &&& 0x8#4 = 0x8#4 →
    core.run (k + 1) s = .next s' → core.run (k + 1) u = .next u' →
    s'.registers = u'.registers ∧ s'.out = u'.out ∧
    ∃ new : List Event, s'.events = s.events ++ new ∧ u'.events = u.events ++ new

end
end

