-- ==== Sys2Proof/Laws/State.lean ====
section
/-!
SUPPORT. What each update of the state does to each of its fields, so that no proof unfolds a record update.
-/

namespace Sys2Proof.Machine

open Sys2Proof

@[simp] theorem State.emit_sr (s : State) (e : Event) : (s.emit e).sr = s.sr := rfl
@[simp] theorem State.emit_cnt (s : State) (e : Event) : (s.emit e).cnt = s.cnt := rfl
@[simp] theorem State.emit_lock (s : State) (e : Event) : (s.emit e).lock = s.lock := rfl
@[simp] theorem State.emit_input (s : State) (e : Event) : (s.emit e).input = s.input := rfl
@[simp] theorem State.emit_out (s : State) (e : Event) : (s.emit e).out = outWord (some e) := rfl
@[simp] theorem State.emit_events (s : State) (e : Event) : (s.emit e).events = s.events ++ [e] := rfl
@[simp] theorem State.emit_tableRead (s : State) (e : Event) : (s.emit e).tableRead = s.tableRead := rfl

@[simp] theorem State.consult_sr (s : State) (t : Table) (w : Window) : (s.consult t w).sr = s.sr := rfl
@[simp] theorem State.consult_cnt (s : State) (t : Table) (w : Window) : (s.consult t w).cnt = s.cnt := rfl
@[simp] theorem State.consult_lock (s : State) (t : Table) (w : Window) : (s.consult t w).lock = s.lock := rfl
@[simp] theorem State.consult_input (s : State) (t : Table) (w : Window) : (s.consult t w).input = s.input := rfl
@[simp] theorem State.consult_out (s : State) (t : Table) (w : Window) : (s.consult t w).out = s.out := rfl
@[simp] theorem State.consult_events (s : State) (t : Table) (w : Window) : (s.consult t w).events = s.events := rfl
@[simp] theorem State.consult_tableRead (s : State) (t : Table) (w : Window) : (s.consult t w).tableRead = some ⟨t, w, romRead t w⟩ := rfl

@[simp] theorem State.enterFrame_sr (s : State) (e : LockedEncoding) : (s.enterFrame e).sr = s.sr := rfl
@[simp] theorem State.enterFrame_cnt (s : State) (e : LockedEncoding) : (s.enterFrame e).cnt = 0 := rfl
@[simp] theorem State.enterFrame_lock (s : State) (e : LockedEncoding) : (s.enterFrame e).lock = encodingOf e := rfl
@[simp] theorem State.enterFrame_input (s : State) (e : LockedEncoding) : (s.enterFrame e).input = s.input := rfl
@[simp] theorem State.enterFrame_out (s : State) (e : LockedEncoding) : (s.enterFrame e).out = outWord (some (.frameStarted e)) := rfl
@[simp] theorem State.enterFrame_events (s : State) (e : LockedEncoding) : (s.enterFrame e).events = s.events ++ [.frameStarted e] := rfl
@[simp] theorem State.enterFrame_tableRead (s : State) (e : LockedEncoding) : (s.enterFrame e).tableRead = s.tableRead := rfl

@[simp] theorem State.resetRegisters_sr (s : State) : s.resetRegisters.sr = 0x00#8 := rfl
@[simp] theorem State.resetRegisters_cnt (s : State) : s.resetRegisters.cnt = 0 := rfl
@[simp] theorem State.resetRegisters_lock (s : State) : s.resetRegisters.lock = .unknown := rfl
@[simp] theorem State.resetRegisters_input (s : State) : s.resetRegisters.input = s.input := rfl
@[simp] theorem State.resetRegisters_out (s : State) : s.resetRegisters.out = s.out := rfl
@[simp] theorem State.resetRegisters_events (s : State) : s.resetRegisters.events = s.events := rfl
@[simp] theorem State.resetRegisters_tableRead (s : State) : s.resetRegisters.tableRead = s.tableRead := rfl

@[simp] theorem State.beginStep_sr (s : State) : s.beginStep.sr = s.sr := rfl
@[simp] theorem State.beginStep_cnt (s : State) : s.beginStep.cnt = s.cnt := rfl
@[simp] theorem State.beginStep_lock (s : State) : s.beginStep.lock = s.lock := rfl
@[simp] theorem State.beginStep_input (s : State) : s.beginStep.input = s.input.tail := rfl
@[simp] theorem State.beginStep_out (s : State) : s.beginStep.out = outWord none := rfl
@[simp] theorem State.beginStep_events (s : State) : s.beginStep.events = s.events := rfl
@[simp] theorem State.beginStep_tableRead (s : State) : s.beginStep.tableRead = none := rfl

@[simp] theorem State.frameWindow_sr (s : State) (e : LockedEncoding) (w : Window) :
    (s.frameWindow e w).sr = s.sr := rfl
@[simp] theorem State.frameWindow_cnt (s : State) (e : LockedEncoding) (w : Window) :
    (s.frameWindow e w).cnt = 0 := rfl
@[simp] theorem State.frameWindow_lock (s : State) (e : LockedEncoding) (w : Window) :
    (s.frameWindow e w).lock = s.lock := rfl
@[simp] theorem State.frameWindow_input (s : State) (e : LockedEncoding) (w : Window) :
    (s.frameWindow e w).input = s.input := rfl
@[simp] theorem State.frameWindow_out (s : State) (e : LockedEncoding) (w : Window) :
    (s.frameWindow e w).out = outWord (some (.bit (decodeBit e w) e)) := rfl
@[simp] theorem State.frameWindow_events (s : State) (e : LockedEncoding) (w : Window) :
    (s.frameWindow e w).events = s.events ++ [.bit (decodeBit e w) e] := rfl
@[simp] theorem State.frameWindow_tableRead (s : State) (e : LockedEncoding) (w : Window) :
    (s.frameWindow e w).tableRead = some ⟨decodeTable e, w, romRead (decodeTable e) w⟩ := rfl

theorem State.nextCode_nil (s : State) (h : s.input = []) : s.nextCode = .input 0b0000#4 := by
  simp [State.nextCode, h]

theorem State.nextCode_cons (s : State) (w : InWord) (rest : List InWord) (h : s.input = w :: rest) :
    s.nextCode = .input w := by
  simp [State.nextCode, h]

@[simp] theorem State.registers_eq_iff (s t : State) :
    s.registers = t.registers ↔ s.sr = t.sr ∧ s.cnt = t.cnt ∧ s.lock = t.lock := by
  simp [State.registers]

end Sys2Proof.Machine
end

