-- ==== Sys2Proof/Laws/Ops.lean ====
section
/-!
SUPPORT. One lemma per shared operation, saying everything it can do.
-/

namespace Sys2Proof.Machine

open Sys2Proof

@[simp] theorem lockedOf_encodingOf (e : LockedEncoding) : lockedOf (encodingOf e) = some e := by
  cases e <;> rfl

@[simp] theorem encodingOf_ne_unknown (e : LockedEncoding) : encodingOf e ≠ .unknown := by
  cases e <;> simp [encodingOf]

theorem lockedOf_eq_none_iff (e : Encoding) : lockedOf e = none ↔ e = .unknown := by
  cases e <;> simp [lockedOf]

theorem lockedOf_eq_some_iff (e : Encoding) (l : LockedEncoding) : lockedOf e = some l ↔ e = encodingOf l := by
  cases e <;> cases l <;> simp [lockedOf, encodingOf]

/-- An Encoding is Unknown or a locked one. -/
theorem encoding_cases (e : Encoding) : e = .unknown ∨ ∃ l, e = encodingOf l := by
  cases e
  · exact .inl rfl
  · exact .inr ⟨.encodingA, rfl⟩
  · exact .inr ⟨.encodingB, rfl⟩

theorem countNext_val (c : Fin 9) : (countNext c).val = min (c.val + 1) 8 := rfl

/-- A window is complete from the eighth sample on. -/
theorem windowDone_iff (c : Fin 9) : windowDone c = true ↔ 7 ≤ c.val := by
  revert c; decide

theorem windowDone_eq_false_iff (c : Fin 9) : windowDone c = false ↔ c.val < 7 := by
  revert c; decide

theorem endFrame_searching (s : State) (h : s.lock = .unknown) : s.endFrame = s := by
  simp [State.endFrame, h, lockedOf]

theorem endFrame_locked (s : State) (e : LockedEncoding) (h : s.lock = encodingOf e) :
    s.endFrame = { s with lock := .unknown, cnt := 0 }.emit .frameEnded := by
  simp [State.endFrame, h]

theorem searchWindow_unknown (s : State) (w : Window) (h : classify w = .unknown) :
    s.searchWindow w = { s.consult .cls w with cnt := 8 } := by
  simp [State.searchWindow, h, lockedOf]

theorem searchWindow_start (s : State) (w : Window) (e : LockedEncoding) (h : classify w = encodingOf e) :
    s.searchWindow w = (s.consult .cls w).enterFrame e := by
  simp [State.searchWindow, h]

theorem takeSample_filling (s : State) (b : Sample) (h : s.cnt.val < 7) :
    s.takeSample b = { s with sr := wshift s.sr b, cnt := countNext s.cnt } := by
  simp [State.takeSample, (windowDone_eq_false_iff s.cnt).2 h]

theorem takeSample_searching (s : State) (b : Sample) (hc : 7 ≤ s.cnt.val) (hl : s.lock = .unknown) :
    s.takeSample b = { s with sr := wshift s.sr b }.searchWindow (wshift s.sr b) := by
  simp [State.takeSample, (windowDone_iff s.cnt).2 hc, hl, lockedOf]

theorem takeSample_locked (s : State) (b : Sample) (e : LockedEncoding) (hc : 7 ≤ s.cnt.val)
    (hl : s.lock = encodingOf e) :
    s.takeSample b = { s with sr := wshift s.sr b }.frameWindow e (wshift s.sr b) := by
  simp [State.takeSample, (windowDone_iff s.cnt).2 hc, hl]

/-- Everything a sample can do: fill the buffer, slide past an Unknown window, lock on a start window, or give a bit. -/
theorem takeSample_cases (s : State) (b : Sample) :
    (s.cnt.val < 7 ∧ s.takeSample b = { s with sr := wshift s.sr b, cnt := countNext s.cnt }) ∨
    (7 ≤ s.cnt.val ∧ s.lock = .unknown ∧ classify (wshift s.sr b) = .unknown ∧
      s.takeSample b = { { s with sr := wshift s.sr b }.consult .cls (wshift s.sr b) with cnt := 8 }) ∨
    (∃ e, 7 ≤ s.cnt.val ∧ s.lock = .unknown ∧ classify (wshift s.sr b) = encodingOf e ∧
      s.takeSample b = ({ s with sr := wshift s.sr b }.consult .cls (wshift s.sr b)).enterFrame e) ∨
    (∃ e, 7 ≤ s.cnt.val ∧ s.lock = encodingOf e ∧
      s.takeSample b = { s with sr := wshift s.sr b }.frameWindow e (wshift s.sr b)) := by
  by_cases hc : s.cnt.val < 7
  · exact .inl ⟨hc, takeSample_filling s b hc⟩
  have hc : 7 ≤ s.cnt.val := by omega
  obtain hl | ⟨e, hl⟩ := encoding_cases s.lock
  · obtain hw | ⟨e, hw⟩ := encoding_cases (classify (wshift s.sr b))
    · exact .inr (.inl ⟨hc, hl, hw, by rw [takeSample_searching s b hc hl, searchWindow_unknown _ _ hw]⟩)
    · exact .inr (.inr (.inl ⟨e, hc, hl, hw, by rw [takeSample_searching s b hc hl, searchWindow_start _ _ e hw]⟩))
  · exact .inr (.inr (.inr ⟨e, hc, hl, takeSample_locked s b e hc hl⟩))

/-- WSHIFT as arithmetic (R80). -/
theorem wshift_toNat (sr : Window) (b : Sample) : (wshift sr b).toNat = (sr.toNat * 2 + b.toNat) % 256 := by
  revert sr b; decide

end Sys2Proof.Machine
end

