-- ==== Sys2Proof/Laws/PerInstr.lean ====
section
/-!
SUPPORT. Statements over all instructions as syntax, one lemma per constructor. RowCode: the code of a well-formed
instruction stands in its row's code space and matches the row's `match` under its `mask`, as opcode_table.json
writes them.
-/

namespace Sys2Proof.Laws.RowCode

open Sys2Proof

/-- The code space, `match` and `mask` of an instruction's row of opcode_table.json. -/
def rowOf : Instr → Space × Nat × Nat
  | .reset => (.input, 0x8, 0x8)
  | .frameEnd => (.input, 0x4, 0xE)
  | .frameEndSample _ => (.input, 0x6, 0xE)
  | .sample _ => (.input, 0x2, 0xE)
  | .idle => (.input, 0x0, 0xE)
  | .classifyA1F => (.windows .cls, 0x1F, 0xFF)
  | .classifyA3F => (.windows .cls, 0x3F, 0xFF)
  | .classifyA9F => (.windows .cls, 0x9F, 0xFF)
  | .classifyB50 => (.windows .cls, 0x50, 0xFF)
  | .classifyB70 => (.windows .cls, 0x70, 0xFF)
  | .classifyBA0 => (.windows .cls, 0xA0, 0xFF)
  | .classifyBA1 => (.windows .cls, 0xA1, 0xFF)
  | .classifyBB0 => (.windows .cls, 0xB0, 0xFF)
  | .classifyBE0 => (.windows .cls, 0xE0, 0xFF)
  | .classifyBE1 => (.windows .cls, 0xE1, 0xFF)
  | .classifyBF0 => (.windows .cls, 0xF0, 0xFF)
  | .classifyBF1 => (.windows .cls, 0xF1, 0xFF)
  | .classifyDefault _ => (.windows .cls, 0x00, 0x00)
  | .decodeAF0 => (.windows .deca, 0xF0, 0xFF)
  | .decodeAF1 => (.windows .deca, 0xF1, 0xFF)
  | .decodeAF3 => (.windows .deca, 0xF3, 0xFF)
  | .decodeAF8 => (.windows .deca, 0xF8, 0xFF)
  | .decodeAF9 => (.windows .deca, 0xF9, 0xFF)
  | .decodeAFC => (.windows .deca, 0xFC, 0xFF)
  | .decodeADefault _ => (.windows .deca, 0x00, 0x00)
  | .decodeB50 _ => (.windows .decb, 0x50, 0xFE)
  | .decodeB70 _ => (.windows .decb, 0x70, 0xFE)
  | .decodeB90 _ => (.windows .decb, 0x90, 0xFE)
  | .decodeBA0 _ => (.windows .decb, 0xA0, 0xFE)
  | .decodeBB0 _ => (.windows .decb, 0xB0, 0xFE)
  | .decodeBC0 _ => (.windows .decb, 0xC0, 0xFE)
  | .decodeBD0 _ => (.windows .decb, 0xD0, 0xFE)
  | .decodeBE0 _ => (.windows .decb, 0xE0, 0xFE)
  | .decodeBF0 _ => (.windows .decb, 0xF0, 0xFE)
  | .decodeBDefault _ => (.windows .decb, 0x00, 0x00)

/-- The space a code stands in and its number there. -/
def spaceAndNumber : Code → Space × Nat
  | .input w => (.input, w.toNat)
  | .window t w => (.windows t, w.toNat)

def Statement (i : Instr) : Prop :=
  i.wf = true →
    (spaceAndNumber (encode i)).1 = (rowOf i).1 ∧ (spaceAndNumber (encode i)).2 &&& (rowOf i).2.2 = (rowOf i).2.1

theorem reset : Statement .reset := by unfold Statement; decide
theorem frameEnd : Statement .frameEnd := by unfold Statement; decide
theorem frameEndSample (b : Sample) : Statement (.frameEndSample b) := by unfold Statement; revert b; decide
theorem sample (b : Sample) : Statement (.sample b) := by unfold Statement; revert b; decide
theorem idle : Statement .idle := by unfold Statement; decide
theorem classifyA1F : Statement .classifyA1F := by unfold Statement; decide
theorem classifyA3F : Statement .classifyA3F := by unfold Statement; decide
theorem classifyA9F : Statement .classifyA9F := by unfold Statement; decide
theorem classifyB50 : Statement .classifyB50 := by unfold Statement; decide
theorem classifyB70 : Statement .classifyB70 := by unfold Statement; decide
theorem classifyBA0 : Statement .classifyBA0 := by unfold Statement; decide
theorem classifyBA1 : Statement .classifyBA1 := by unfold Statement; decide
theorem classifyBB0 : Statement .classifyBB0 := by unfold Statement; decide
theorem classifyBE0 : Statement .classifyBE0 := by unfold Statement; decide
theorem classifyBE1 : Statement .classifyBE1 := by unfold Statement; decide
theorem classifyBF0 : Statement .classifyBF0 := by unfold Statement; decide
theorem classifyBF1 : Statement .classifyBF1 := by unfold Statement; decide
theorem classifyDefault (w : Window) : Statement (.classifyDefault w) := fun _ => ⟨rfl, Nat.and_zero _⟩
theorem decodeAF0 : Statement .decodeAF0 := by unfold Statement; decide
theorem decodeAF1 : Statement .decodeAF1 := by unfold Statement; decide
theorem decodeAF3 : Statement .decodeAF3 := by unfold Statement; decide
theorem decodeAF8 : Statement .decodeAF8 := by unfold Statement; decide
theorem decodeAF9 : Statement .decodeAF9 := by unfold Statement; decide
theorem decodeAFC : Statement .decodeAFC := by unfold Statement; decide
theorem decodeADefault (w : Window) : Statement (.decodeADefault w) := fun _ => ⟨rfl, Nat.and_zero _⟩
theorem decodeB50 (lo : BitVec 1) : Statement (.decodeB50 lo) := by unfold Statement; revert lo; decide
theorem decodeB70 (lo : BitVec 1) : Statement (.decodeB70 lo) := by unfold Statement; revert lo; decide
theorem decodeB90 (lo : BitVec 1) : Statement (.decodeB90 lo) := by unfold Statement; revert lo; decide
theorem decodeBA0 (lo : BitVec 1) : Statement (.decodeBA0 lo) := by unfold Statement; revert lo; decide
theorem decodeBB0 (lo : BitVec 1) : Statement (.decodeBB0 lo) := by unfold Statement; revert lo; decide
theorem decodeBC0 (lo : BitVec 1) : Statement (.decodeBC0 lo) := by unfold Statement; revert lo; decide
theorem decodeBD0 (lo : BitVec 1) : Statement (.decodeBD0 lo) := by unfold Statement; revert lo; decide
theorem decodeBE0 (lo : BitVec 1) : Statement (.decodeBE0 lo) := by unfold Statement; revert lo; decide
theorem decodeBF0 (lo : BitVec 1) : Statement (.decodeBF0 lo) := by unfold Statement; revert lo; decide
theorem decodeBDefault (w : Window) : Statement (.decodeBDefault w) := fun _ => ⟨rfl, Nat.and_zero _⟩

end Sys2Proof.Laws.RowCode
end

