-- ==== Sys2Proof/Laws/Safety.lean ====
section
/-!
SUPPORT. The recursion of the event stream's shape and of a run, so that an induction over either cites one lemma.
-/

namespace Sys2Proof.Machine

open Sys2Proof

/-- A stream in two parts is shaped when each part is, the second from what the first leaves open. -/
theorem shaped_append (acrossResets : Bool) (open_ : Option LockedEncoding) (xs ys : List Event) :
    shaped acrossResets open_ (xs ++ ys) =
      (shaped acrossResets open_ xs && shaped acrossResets (openAfter open_ xs) ys) := by
  induction xs generalizing open_ with
  | nil => simp [shaped, openAfter]
  | cons e xs ih => simp [shaped, openAfter, ih, Bool.and_assoc]

theorem openAfter_append (open_ : Option LockedEncoding) (xs ys : List Event) :
    openAfter open_ (xs ++ ys) = openAfter (openAfter open_ xs) ys := by
  induction xs generalizing open_ with
  | nil => rfl
  | cons e xs ih => simp [openAfter, ih]

theorem run_zero (s : State) : core.run 0 s = .next s := rfl

/-- A run whose first step gives `t` goes on from `t`. -/
theorem run_succ {k : Nat} {s t : State} (h : step s = .next t) : core.run (k + 1) s = core.run k t := by
  have : core.step s = .next t := h
  simp [Host.Core.run, this]

end Sys2Proof.Machine
end

