-- ==== Sys2Proof/Tests/Slice0.lean ====
section
/-!
SUPPORT. The model's own tests, each expected result from spec/95_test_vectors.md or from the table of the rule it names,
and the witnesses that meet the hypotheses of the statements in Certificates/Slice0/Obligations.lean.
-/

namespace Sys2Proof.Tests

open Sys2Proof Sys2Proof.Machine

/-! ## Well-formedness: one ill-formed term for each check -/

theorem test_wf_refuses_listed_default :
    (Instr.classifyDefault 0x1F#8).wf = false ∧ (Instr.decodeADefault 0xF1#8).wf = false ∧
    (Instr.decodeBDefault 0x51#8).wf = false := by decide

theorem test_wf_accepts_unlisted_default :
    (Instr.classifyDefault 0x7F#8).wf = true ∧ (Instr.decodeADefault 0xF2#8).wf = true ∧
    (Instr.decodeBDefault 0x52#8).wf = true ∧ Instr.idle.wf = true := by decide

/-! ## Decoding: every constructor, by words written out from 30_encoding.md R66 and R73 -/

theorem test_decode_input_words :
    [0b0000#4, 0b0001#4, 0b0010#4, 0b0011#4, 0b0100#4, 0b0101#4, 0b0110#4, 0b0111#4].map decodeInput =
      [.idle, .idle, .sample 0#1, .sample 1#1, .frameEnd, .frameEnd, .frameEndSample 0#1, .frameEndSample 1#1] ∧
    [0b1000#4, 0b1001#4, 0b1010#4, 0b1011#4, 0b1100#4, 0b1101#4, 0b1110#4, 0b1111#4].map decodeInput =
      List.replicate 8 .reset := by decide

theorem test_decode_classify_rows :
    [0b00011111#8, 0b00111111#8, 0b10011111#8].map (decodeWindow .cls) = [.classifyA1F, .classifyA3F, .classifyA9F] ∧
    [0b01010000#8, 0b01110000#8, 0b10100000#8, 0b10100001#8, 0b10110000#8].map (decodeWindow .cls) =
      [.classifyB50, .classifyB70, .classifyBA0, .classifyBA1, .classifyBB0] ∧
    [0b11100000#8, 0b11100001#8, 0b11110000#8, 0b11110001#8, 0b01111111#8].map (decodeWindow .cls) =
      [.classifyBE0, .classifyBE1, .classifyBF0, .classifyBF1, .classifyDefault 0x7F#8] := by decide

theorem test_decode_decodeA_rows :
    [0b11110000#8, 0b11110001#8, 0b11110011#8, 0b11111000#8, 0b11111001#8, 0b11111100#8, 0b11110110#8].map
      (decodeWindow .deca) =
      [.decodeAF0, .decodeAF1, .decodeAF3, .decodeAF8, .decodeAF9, .decodeAFC, .decodeADefault 0xF6#8] := by decide

theorem test_decode_decodeB_rows :
    [0b01010000#8, 0b01110001#8, 0b10010000#8, 0b10100001#8, 0b10110000#8].map (decodeWindow .decb) =
      [.decodeB50 0#1, .decodeB70 1#1, .decodeB90 0#1, .decodeBA0 1#1, .decodeBB0 0#1] ∧
    [0b11000001#8, 0b11010000#8, 0b11100001#8, 0b11110000#8, 0b01010011#8].map (decodeWindow .decb) =
      [.decodeBC0 1#1, .decodeBD0 0#1, .decodeBE0 1#1, .decodeBF0 0#1, .decodeBDefault 0x53#8] := by decide

/-- A number that is no code of its space is refused by name. -/
theorem test_decode_rejects_too_wide :
    decodeNumber .input 16 = .error .inputWordTooWide ∧ decodeNumber .input 15 = .ok .reset ∧
    decodeNumber (.windows .cls) 256 = .error .windowTooWide ∧
    decodeNumber (.windows .cls) 255 = .ok (.classifyDefault 0xFF#8) := ⟨rfl, rfl, rfl, rfl⟩

theorem test_decodeTableWord :
    decodeTableWord 8 0x8 = some .reset ∧ decodeTableWord 8 0x1F = some .classifyA1F ∧
    decodeTableWord 8 0xF0 = some .classifyBF0 ∧ decodeTableWord 8 0xFC = some .decodeAFC ∧
    decodeTableWord 8 0x91 = some (.decodeB90 1#1) ∧ decodeTableWord 0 0 = some (.classifyDefault 0#8) := by decide

/-! ## The functions of SAMPLE -/

/-- 95 section 2.1. -/
theorem test_wshift :
    wshift 0x00#8 1#1 = 0x01#8 ∧ wshift 0xFF#8 0#1 = 0xFE#8 ∧ wshift 0x8F#8 1#1 = 0x1F#8 ∧ wshift 0x80#8 0#1 = 0x00#8 ∧
    wshift 0xAA#8 1#1 = 0x55#8 ∧ wshift 0x55#8 0#1 = 0xAA#8 := by decide

/-- 95 section 2.2. -/
theorem test_count :
    [0, 1, 6, 7, 8].map countNext = [1, 2, 7, 8, 8] ∧ [0, 1, 6, 7, 8].map windowDone = [false, false, false, true, true] := by
  decide

/-- 95 sections 1.2 and 2.3. -/
theorem test_classify :
    [0x1F#8, 0x3F#8, 0x9F#8].map classify = List.replicate 3 .encodingA ∧
    [0x50#8, 0x70#8, 0xA0#8, 0xA1#8, 0xB0#8, 0xE0#8, 0xE1#8, 0xF0#8, 0xF1#8].map classify =
      List.replicate 9 .encodingB ∧
    [0x00#8, 0xFF#8, 0x0F#8, 0x5F#8, 0x7F#8, 0xBF#8, 0x51#8, 0x90#8, 0xF3#8, 0xA2#8].map classify =
      List.replicate 10 .unknown := by decide

/-- 95 section 2.4. -/
theorem test_decodeA :
    [0xF0#8, 0xF1#8, 0xF3#8, 0xF8#8, 0xF9#8, 0xFC#8].map decodeA = List.replicate 6 1#1 ∧
    [0xF2#8, 0xF4#8, 0xFA#8, 0xFD#8, 0xFE#8, 0xE0#8, 0x70#8, 0x00#8, 0x1F#8].map decodeA = List.replicate 9 0#1 := by
  decide

/-- 95 section 2.5. -/
theorem test_decodeB :
    [0x50#8, 0x71#8, 0x90#8, 0xA1#8, 0xB0#8, 0xC1#8, 0xD0#8, 0xE1#8, 0xF1#8].map decodeB = List.replicate 9 1#1 ∧
    [0x10#8, 0x20#8, 0x30#8, 0x41#8, 0x60#8, 0x81#8, 0x52#8, 0xF3#8, 0x0F#8].map decodeB = List.replicate 9 0#1 := by
  decide

/-- 30_encoding.md R71's examples of a disassembler, and R72's `Sb*n`. -/
theorem test_trace :
    disassemble 0x5#4 = .fe ∧ disassemble 0xB#4 = .rst ∧ disassemble 0x1#4 = .nop ∧
    (repeatedTrace 1#1 3).map assemble = [0x3#4, 0x3#4, 0x3#4] := by decide

/-- 30_encoding.md R72's example. -/
theorem test_windowWords : windowWords 0x1F#8 = [0x2, 0x2, 0x2, 0x3, 0x3, 0x3, 0x3, 0x3] := by decide

/-- 10_state.md R31: the last three samples of 0b...101, oldest first. -/
theorem test_pending : pending 0xF6#8 3 = [true, true, false] := by decide

/-! ## One step -/

/-- A small state: the registers and one input word. -/
def at_ (sr : Window) (cnt : Fin 9) (lock : Encoding) (w : InWord) : State :=
  { State.reset with sr := sr, cnt := cnt, lock := lock, input := [w] }

/-- The registers and the output word after one step. -/
def after (s : State) : Option (Window × Fin 9 × Encoding × OutWord) :=
  match step s with
  | .next t => some (t.sr, t.cnt, t.lock, t.out)
  | _ => none

/-- 95 section 2.6, SEARCHING. -/
theorem test_sample_searching :
    after (at_ 0x0F 6 .unknown 0x3) = some (0x1F, 7, .unknown, 0x00) ∧
    after (at_ 0x8F 8 .unknown 0x3) = some (0x1F, 0, .encodingA, 0x0A) ∧
    after (at_ 0x7F 8 .unknown 0x3) = some (0xFF, 8, .unknown, 0x00) ∧
    after (at_ 0xD0 8 .unknown 0x3) = some (0xA1, 0, .encodingB, 0x0C) := by decide

/-- 95 section 2.6, LOCKED. -/
theorem test_sample_lockedA_and_filling :
    after (at_ 0xF8 7 .encodingA 0x2) = some (0xF0, 0, .encodingA, 0x13) ∧
    after (at_ 0x8F 7 .encodingA 0x3) = some (0x1F, 0, .encodingA, 0x12) ∧
    after (at_ 0x58 3 .encodingB 0x2) = some (0xB0, 4, .encodingB, 0x00) := by decide

/-- 95 section 2.6, LOCKED(EncodingB). -/
theorem test_sample_lockedB :
    after (at_ 0xA8 7 .encodingB 0x3) = some (0x51, 0, .encodingB, 0x15) ∧
    after (at_ 0xF9 7 .encodingB 0x3) = some (0xF3, 0, .encodingB, 0x14) := by decide

/-- 95 section 2.7. -/
theorem test_frameEnd :
    after (at_ 0xF0 3 .encodingA 0x4) = some (0xF0, 0, .unknown, 0x18) ∧
    after (at_ 0xA0 7 .encodingB 0x5) = some (0xA0, 0, .unknown, 0x18) ∧
    after (at_ 0x12 5 .unknown 0x4) = some (0x12, 5, .unknown, 0x00) := by decide

/-- 95 section 2.8. -/
theorem test_frameEndSample :
    after (at_ 0xF0 3 .encodingA 0x7) = some (0xE1, 1, .unknown, 0x18) ∧
    after (at_ 0x78 7 .encodingB 0x6) = some (0xF0, 1, .unknown, 0x18) ∧
    after (at_ 0x0F 7 .unknown 0x7) = some (0x1F, 0, .encodingA, 0x0A) := by decide

/-- 95 section 2.9. -/
theorem test_reset_idle :
    after (at_ 0xA5 5 .encodingB 0x8) = some (0x00, 0, .unknown, 0x00) ∧
    after (at_ 0x0F 7 .unknown 0xB) = some (0x00, 0, .unknown, 0x00) ∧
    after (at_ 0xF8 7 .encodingA 0x1) = some (0xF8, 7, .encodingA, 0x00) := by decide

/-- 60_exceptions.md R140: no input word, no change. -/
theorem test_no_input : after { at_ 0x1F 5 .unknown 0x0 with input := [] } = some (0x1F, 5, .unknown, 0x00) := by decide

/-- A row placed by the host's hook is consulted by the very next step; 95 section 1.1 scenarios 1 and 2. -/
theorem test_withFetchWord :
    after (State.reset.withFetchWord 8 0x1F) = some (0x1F, 0, .encodingA, 0x0A) ∧
    after (State.reset.withFetchWord 8 0xF3) = some (0xF3, 0, .encodingA, 0x13) ∧
    after (State.reset.withFetchWord 8 0x91) = some (0x91, 0, .encodingB, 0x15) ∧
    after (State.reset.withFetchWord 8 0x3) = some (0x01, 1, .unknown, 0x00) := by decide

/-- What a table row run by itself reads. -/
def rowReads (i : Instr) : Option TableEntry :=
  match exec i State.reset with
  | .next t => t.tableRead.map (·.entry)
  | _ => none

/-- The `result` column of opcode_table.json, `CLASSIFY.*`. -/
theorem test_classify_rows :
    [Instr.classifyA1F, .classifyA3F, .classifyA9F].map rowReads = List.replicate 3 (some (.encoding .encodingA)) ∧
    [Instr.classifyB50, .classifyB70, .classifyBA0, .classifyBA1, .classifyBB0, .classifyBE0, .classifyBE1, .classifyBF0,
      .classifyBF1].map rowReads = List.replicate 9 (some (.encoding .encodingB)) ∧
    rowReads (.classifyDefault 0x7F) = some (.encoding .unknown) := by decide

/-- The `result` column of opcode_table.json, `DECODE_A.*` and `DECODE_B.*`. -/
theorem test_decode_rows :
    [Instr.decodeAF0, .decodeAF1, .decodeAF3, .decodeAF8, .decodeAF9, .decodeAFC].map rowReads =
      List.replicate 6 (some (.bit 1)) ∧
    rowReads (.decodeADefault 0xF2) = some (.bit 0) ∧
    [Instr.decodeB50 0, .decodeB70 1, .decodeB90 0, .decodeBA0 1, .decodeBB0 0, .decodeBC0 1, .decodeBD0 0, .decodeBE0 1,
      .decodeBF0 0].map rowReads = List.replicate 9 (some (.bit 1)) ∧
    rowReads (.decodeBDefault 0x53) = some (.bit 0) := by decide

/-! ## Witnesses of the statements' hypotheses, one for each clause that has any -/

theorem witness_InputWordMap :
    0xF#4 &&& 0x8#4 = 0x8#4 ∧ 0x5#4 &&& 0xE#4 = 0x4#4 ∧ 0x7#4 &&& 0xE#4 = 0x6#4 ∧ 0x3#4 &&& 0xE#4 = 0x2#4 ∧
    0x1#4 &&& 0xE#4 = 0x0#4 := by decide

theorem witness_DecodeEncode : (Instr.decodeBDefault 0xFF#8).wf = true := by decide

theorem witness_DecodeBTable : ∃ w hi lo : Window, hi = w >>> 4 ∧ lo = w &&& 0x0F ∧ hi = 0xF ∧ lo = 0x1 :=
  ⟨0xF1, 0xF, 0x1, by decide⟩

theorem witness_TableRelations :
    classify 0xF1#8 = .encodingB ∧ classify 0x9F#8 = .encodingA ∧ (0xFF#8 = 0x00#8 ∨ 0xFF#8 = 0xFF#8) := by decide

/-- Two different states whose steps read one entry of one table (idempotence, R95). -/
theorem witness_TablesTotalDisjointIdempotent :
    ∃ (t v : State) (r q : TableRead), step (at_ 0x0F 7 .unknown 0x3) = .next t ∧ step (at_ 0x8F 8 .unknown 0x3) = .next v ∧
      t.tableRead = some r ∧ v.tableRead = some q ∧ r.table = q.table ∧ r.window = q.window :=
  ⟨_, _, _, _, rfl, rfl, rfl, rfl, rfl, rfl⟩

theorem witness_default_rows :
    (Instr.classifyDefault 0xF2#8).wf = true ∧ (Instr.decodeADefault 0xFF#8).wf = true ∧
    (Instr.decodeBDefault 0x00#8).wf = true := by decide

/-- SampleResult: its six clauses, the first at its last count, the others at the first and last complete count. -/
theorem witness_SampleResult :
    (0x1F#8 = BitVec.ofNat 8 ((0x8F#8).toNat * 2 + (1#1).toNat)) ∧
    (at_ 0x0F 6 .unknown 0x3).cnt.val < 7 ∧
    (7 ≤ (at_ 0x3F 7 .unknown 0x3).cnt.val ∧ classify 0x7F = .unknown) ∧
    (7 ≤ (at_ 0x8F 8 .unknown 0x3).cnt.val ∧ classify 0x1F = .encodingA) ∧
    (7 ≤ (at_ 0x28 7 .unknown 0x2).cnt.val ∧ classify 0x50 = .encodingB) ∧
    (7 ≤ (at_ 0xF8 7 .encodingA 0x2).cnt.val ∧ (at_ 0xF8 7 .encodingA 0x2).lock = .encodingA) ∧
    (7 ≤ (at_ 0x58 7 .encodingB 0x2).cnt.val ∧ (at_ 0x58 7 .encodingB 0x2).lock = .encodingB) := by decide

theorem witness_FrameEndResult_FrameEndSampleResult :
    (at_ 0xF0 3 .encodingA 0x4).lock ≠ .unknown ∧ (at_ 0x12 8 .unknown 0x6).lock = .unknown := by decide

/-- InstructionFrame: an instruction of each clause completes. -/
theorem witness_InstructionFrame :
    (∃ t, exec .frameEnd (at_ 0xF0 3 .encodingA 0x4) = .next t) ∧ (∃ t, exec .idle State.reset = .next t) ∧
    (∃ t, exec .reset (at_ 0xA5 5 .encodingB 0x8) = .next t) ∧
    (∃ t, exec (.decodeB50 1#1) State.reset = .next t ∧ encode (.decodeB50 1#1) = .window .decb 0x51) ∧
    (∃ t, exec (.sample 0#1) (at_ 0xF8 7 .encodingA 0x2) = .next t ∧ t.events ≠ (at_ 0xF8 7 .encodingA 0x2).events) :=
  ⟨⟨_, rfl⟩, ⟨_, rfl⟩, ⟨_, rfl⟩, ⟨_, rfl, by decide⟩, ⟨_, rfl, by decide⟩⟩

theorem witness_StepRunsDecoded :
    (at_ 0xF0 3 .encodingA 0x4).input = 0x4#4 :: [] ∧ State.reset.input = [] := by decide

/-- AtMostOneEvent, EventCauses, ClassifierConsulted, DemodulatorConsulted: a step of each cause. -/
theorem witness_step_of_each_event :
    (∃ t, step (at_ 0x8F 8 .unknown 0x3) = .next t ∧ t.events = [.frameStarted .encodingA]) ∧
    (∃ t, step (at_ 0x78 7 .unknown 0x6) = .next t ∧ t.events = [.frameStarted .encodingB]) ∧
    (∃ t, step (at_ 0xF8 7 .encodingA 0x2) = .next t ∧ t.events = [.bit 1 .encodingA]) ∧
    (∃ t, step (at_ 0x58 7 .encodingB 0x2) = .next t ∧ t.events = [.bit 1 .encodingB]) ∧
    (∃ t, step (at_ 0x78 7 .encodingB 0x6) = .next t ∧ t.events = [.frameEnded]) :=
  ⟨⟨_, rfl, by decide⟩, ⟨_, rfl, by decide⟩, ⟨_, rfl, by decide⟩, ⟨_, rfl, by decide⟩, ⟨_, rfl, by decide⟩⟩

/-- LockHeldUntilFrameEndOrReset: a locked step that keeps the lock, and one that gives it up. -/
theorem witness_LockHeldUntilFrameEndOrReset :
    (∃ t, step (at_ 0x8F 7 .encodingA 0x3) = .next t ∧ t.lock = .encodingA) ∧
    (∃ t, step (at_ 0x8F 7 .encodingA 0xF) = .next t ∧ t.lock = .unknown) ∧
    (at_ 0x8F 7 .encodingA 0x3).lock ≠ .unknown :=
  ⟨⟨_, rfl, by decide⟩, ⟨_, rfl, by decide⟩, by decide⟩

theorem witness_StepReadsTheRow :
    ∃ t, step (at_ 0xF9 7 .encodingB 0x3) = .next t ∧ t.tableRead = some ⟨.decb, 0xF3, .bit 0⟩ :=
  ⟨_, rfl, by decide⟩

theorem witness_PlacedWordRuns :
    (∃ t, step (State.reset.withFetchWord 8 16) = .next t) ∧ (∃ t, step (State.reset.withFetchWord 8 255) = .next t) ∧
    15 < 16 :=
  ⟨⟨_, rfl⟩, ⟨_, rfl⟩, by decide⟩

/-- RecordNeverRead: two states that differ in the record alone. -/
theorem witness_RecordNeverRead :
    let s := at_ 0xF8 7 .encodingA 0x2
    let u := { s with events := [.frameEnded], out := 0x18 }
    s.registers = u.registers ∧ s.input = u.input ∧ (∃ s', step s = .next s') ∧ (∃ u', step u = .next u') :=
  ⟨rfl, rfl, ⟨_, rfl⟩, ⟨_, rfl⟩⟩

theorem witness_ResetState : (at_ 0xF8 7 .encodingA 0xF).input = 0xF#4 :: [] ∧ 0xF#4 &&& 0x8#4 = 0x8#4 := by decide

/-- StepKeepsInv: a locked state at its last count. -/
theorem witness_StepKeepsInv :
    (at_ 0xF8 7 .encodingA 0x2).Inv ∧ ∃ t, step (at_ 0xF8 7 .encodingA 0x2) = .next t :=
  ⟨fun _ => by decide, _, rfl⟩

/-- StepKeepsFramed: a locked state with its frame open, at the end of a window. -/
theorem witness_StepKeepsFramed :
    let s := { at_ 0xF8 7 .encodingA 0x2 with events := [.frameStarted .encodingA] }
    s.Framed ∧ ∃ t, step s = .next t :=
  ⟨⟨by decide, fun e h => by cases h; decide⟩, _, rfl⟩

/-- FramesBetweenResets: a run of two steps without a RESET, that ends a frame and starts the next search. -/
theorem witness_FramesBetweenResets :
    let s := { at_ 0xF8 7 .encodingA 0x2 with input := [0x2, 0x6] }
    (∀ w ∈ s.input.take 2, w &&& 0x8#4 ≠ 0x8#4) ∧ ∃ t, core.run 2 s = .next t :=
  ⟨by decide, _, rfl⟩

/-- WindowDelivered: a window for each of its clauses, from `cnt = 0`. -/
theorem witness_WindowDelivered :
    (let s := { State.reset with input := windowWords 0x7F ++ [] }
     s.cnt = 0 ∧ s.input = windowWords 0x7F ++ [] ∧ s.lock = .unknown ∧ classify 0x7F = .unknown) ∧
    (let s := { State.reset with sr := 0xFF, input := windowWords 0x1F ++ [0x8] }
     s.cnt = 0 ∧ s.input = windowWords 0x1F ++ [0x8] ∧ s.lock = .unknown ∧ classify 0x1F = encodingOf .encodingA) ∧
    (let s := { State.reset with lock := .encodingB, input := windowWords 0xB0 ++ [] }
     s.cnt = 0 ∧ s.input = windowWords 0xB0 ++ [] ∧ s.lock = encodingOf .encodingB) := by decide

/-- DeadBits: two states that differ in dead bits alone. -/
theorem witness_DeadBits :
    let s := at_ 0x05 3 .encodingA 0x3
    let u := at_ 0xFD 3 .encodingA 0x3
    s.lock = u.lock ∧ s.cnt = u.cnt ∧ pending s.sr s.cnt = pending u.sr u.cnt ∧ s.input = u.input ∧ s.sr ≠ u.sr ∧
    (∃ s', step s = .next s') ∧ (∃ u', step u = .next u') :=
  ⟨rfl, rfl, by decide, rfl, by decide, ⟨_, rfl⟩, ⟨_, rfl⟩⟩

/-- PendingSamples: a state for each clause. -/
theorem witness_PendingSamples :
    (∃ t, exec (.sample 1#1) (at_ 0x3F 7 .unknown 0x3) = .next t ∧ t.cnt ≠ 0) ∧
    (∃ t, exec (.sample 1#1) (at_ 0x7F 8 .unknown 0x3) = .next t ∧ t.cnt ≠ 0) ∧
    (∃ t, exec (.sample 0#1) (at_ 0xF8 7 .encodingA 0x2) = .next t ∧ t.events ≠ (at_ 0xF8 7 .encodingA 0x2).events) :=
  ⟨⟨_, rfl, by decide⟩, ⟨_, rfl, by decide⟩, ⟨_, rfl, by decide⟩⟩

theorem witness_LockedCadence :
    let s := { State.reset with lock := .encodingB, input := windowWords 0xB0 ++ [0x4] }
    (∀ w ∈ windowWords 0xB0, isSampleWord w = true) ∧ s.input = windowWords 0xB0 ++ [0x4] ∧
    s.lock = encodingOf .encodingB ∧ s.cnt = 0 := by decide

/-- SearchCadence: seven samples, and eight that lock nothing (95 section 1.1 scenario 5). -/
theorem witness_SearchCadence :
    (∀ w ∈ windowWords 0x7F, isSampleWord w = true) ∧ ((windowWords 0x7F).take 7).length < 8 ∧
    8 ≤ (windowWords 0x7F).length ∧
    ∃ t : State, core.run 8 { State.reset with input := windowWords 0x7F } = .next t ∧ t.events = [] :=
  ⟨by decide, by decide, by decide, _, rfl, by decide⟩

/-- StartStateForgotten: two different states before the same RESET word. -/
theorem witness_StartStateForgotten :
    let s := { at_ 0xA5 5 .encodingB 0x8 with input := [0x8, 0x3] }
    let u := { State.reset with input := [0x8, 0x3] }
    s.input = 0x8#4 :: [0x3] ∧ u.input = 0x8#4 :: [0x3] ∧ 0x8#4 &&& 0x8#4 = 0x8#4 ∧
    (∃ s', core.run 2 s = .next s') ∧ (∃ u', core.run 2 u = .next u') :=
  ⟨rfl, rfl, by decide, ⟨_, rfl⟩, ⟨_, rfl⟩⟩

end Sys2Proof.Tests
end

/-!
SUPPORT. The classifier's statements: the classes of `CLS`, everything one step can do, which table a step consults, and
what a step can do to a frame that is open.
-/

namespace Sys2Proof.Machine

open Sys2Proof

/-! ## The classes of `CLS` -/

theorem romRead_cls_eq_iff (w : Window) (e : Encoding) : romRead .cls w = .encoding e ↔ classify w = e := by
  simp [romRead]

/-- The two start classes are disjoint (R95), so the order of the tests in `classify` does not matter. -/
theorem not_mem_startWindowsA_of_mem_startWindowsB {w : Window} (h : w ∈ startWindowsB) : w ∉ startWindowsA := by
  revert w; decide

theorem classify_eq_encodingA_iff (w : Window) : classify w = .encodingA ↔ w ∈ startWindowsA := by
  unfold classify
  split_ifs <;> simp [*]

theorem classify_eq_encodingB_iff (w : Window) : classify w = .encodingB ↔ w ∈ startWindowsB := by
  unfold classify
  split_ifs with hA hB
  · simpa using fun hB => not_mem_startWindowsA_of_mem_startWindowsB hB hA
  · simp [hB]
  · simp [hB]

theorem classify_eq_unknown_iff (w : Window) : classify w = .unknown ↔ w ∉ startWindowsA ∧ w ∉ startWindowsB := by
  unfold classify
  split_ifs <;> simp [*]

/-- Settles O7: each class is the list it is built from, and the Unknown entries are counted over all 256 windows. -/
theorem classifierTable : Obligations.ClassifierTable := by
  unfold Obligations.ClassifierTable
  refine ⟨fun w => ?_, fun w => ?_, fun w => ?_, ?_⟩
  · rw [romRead_cls_eq_iff, classify_eq_encodingA_iff]
    simp [startWindowsA]
  · rw [romRead_cls_eq_iff, classify_eq_encodingB_iff]
    simp [startWindowsB]
  · rw [romRead_cls_eq_iff, classify_eq_unknown_iff]
    simp [startWindowsA, startWindowsB, and_assoc]
  · decide +kernel

/-! ## What a step can do -/

/-- R66: the five operations by match and mask. -/
theorem decode_input_cases (w : InWord) :
    (w &&& 0x8#4 = 0x8#4 ∧ decode (.input w) = .reset) ∨
    (w &&& 0xE#4 = 0x4#4 ∧ decode (.input w) = .frameEnd) ∨
    (w &&& 0xE#4 = 0x6#4 ∧ decode (.input w) = .frameEndSample (w.extractLsb' 0 1)) ∨
    (w &&& 0xE#4 = 0x2#4 ∧ decode (.input w) = .sample (w.extractLsb' 0 1)) ∨
    (w &&& 0xE#4 = 0x0#4 ∧ decode (.input w) = .idle) := by
  revert w; decide

/-- A word `0-1-` carries a sample: it is a FRAME_END_SAMPLE or a SAMPLE (R66). -/
theorem takesSample_iff (w : InWord) : w &&& 0xA#4 = 0x2#4 ↔ w &&& 0xE#4 = 0x6#4 ∨ w &&& 0xE#4 = 0x2#4 := by
  revert w; decide

theorem not_takesSample_of_reset {w : InWord} (h : w &&& 0x8#4 = 0x8#4) : w &&& 0xA#4 ≠ 0x2#4 := by
  revert w; decide

/-- Everything a step can do (R126): where no word is presented it begins and does no more, else it performs the operation
of the word. -/
theorem step_cases {s t : State} (h : step s = .next t) :
    (s.input = [] ∧ t = s.beginStep) ∨
    ∃ (w : InWord) (rest : List InWord), s.input = w :: rest ∧
      ((w &&& 0x8#4 = 0x8#4 ∧ t = s.beginStep.resetRegisters) ∨
       (w &&& 0xE#4 = 0x4#4 ∧ t = s.beginStep.endFrame) ∨
       (w &&& 0xE#4 = 0x6#4 ∧ t = s.beginStep.endFrame.takeSample (w.extractLsb' 0 1)) ∨
       (w &&& 0xE#4 = 0x2#4 ∧ t = s.beginStep.takeSample (w.extractLsb' 0 1)) ∨
       (w &&& 0xE#4 = 0x0#4 ∧ t = s.beginStep)) := by
  unfold step at h
  cases hi : s.input with
  | nil =>
    rw [s.nextCode_nil hi] at h
    cases h
    exact .inl ⟨rfl, rfl⟩
  | cons w rest =>
    rw [s.nextCode_cons w rest hi] at h
    refine .inr ⟨w, rest, rfl, ?_⟩
    obtain ⟨hw, hd⟩ | ⟨hw, hd⟩ | ⟨hw, hd⟩ | ⟨hw, hd⟩ | ⟨hw, hd⟩ := decode_input_cases w <;>
      (rw [hd] at h; cases h)
    · exact .inl ⟨hw, rfl⟩
    · exact .inr (.inl ⟨hw, rfl⟩)
    · exact .inr (.inr (.inl ⟨hw, rfl⟩))
    · exact .inr (.inr (.inr (.inl ⟨hw, rfl⟩)))
    · exact .inr (.inr (.inr (.inr ⟨hw, rfl⟩)))

/-- FRAME_END consults no table (R52). -/
@[simp] theorem State.endFrame_tableRead (s : State) : s.endFrame.tableRead = s.tableRead := by
  unfold State.endFrame
  split <;> rfl

/-- FRAME_END leaves a complete window to classify only where one was pending while SEARCHING: it empties the buffer of
a frame it ends. -/
theorem endFrame_lock_cnt_iff (s : State) :
    s.endFrame.lock = .unknown ∧ 7 ≤ s.endFrame.cnt.val ↔ s.lock = .unknown ∧ 7 ≤ s.cnt.val := by
  obtain hl | ⟨e, hl⟩ := encoding_cases s.lock
  · rw [endFrame_searching s hl]
  · simp [endFrame_locked s e hl, hl]

/-- A FRAME_END_SAMPLE that ends a frame takes its sample as the first of the next search (R113). -/
theorem endFrame_takeSample_locked (s : State) (b : Sample) (e : LockedEncoding) (h : s.lock = encodingOf e) :
    s.endFrame.takeSample b =
      { { s with lock := .unknown, cnt := 0 }.emit .frameEnded with sr := wshift s.sr b, cnt := 1 } := by
  rw [endFrame_locked s e h]
  exact takeSample_filling _ b (by simp)

/-- What a frame that is open can come to in a step: it goes on, with at most a bit of its own encoding, or it is over, with
or without `FrameEnded` (R116, R119). -/
theorem step_locked_cases {s t : State} {e : LockedEncoding} (h : step s = .next t) (hl : s.lock = encodingOf e) :
    (t.lock = s.lock ∧ (t.events = s.events ∨ ∃ b, t.events = s.events ++ [.bit b e])) ∨
    (t.lock = .unknown ∧ (t.events = s.events ∨ t.events = s.events ++ [.frameEnded])) := by
  have hb : s.beginStep.lock = encodingOf e := hl
  obtain ⟨-, rfl⟩ | ⟨w, rest, -, ⟨-, rfl⟩ | ⟨-, rfl⟩ | ⟨-, rfl⟩ | ⟨-, rfl⟩ | ⟨-, rfl⟩⟩ := step_cases h
  · exact .inl ⟨rfl, .inl rfl⟩
  · exact .inr ⟨rfl, .inl rfl⟩
  · exact .inr (by simp [endFrame_locked _ e hb])
  · exact .inr (by simp [endFrame_takeSample_locked _ _ e hb])
  · by_cases hc : s.cnt.val < 7
    · exact .inl (by simp [takeSample_filling s.beginStep _ hc])
    · exact .inl (by simp [takeSample_locked s.beginStep _ e (Nat.le_of_not_lt hc) hb])
  · exact .inl ⟨rfl, .inl rfl⟩

/-! ## Which table is consulted -/

theorem lockFor_decodeTable (e : LockedEncoding) : lockFor (decodeTable e) = encodingOf e := by
  cases e <;> rfl

theorem lockFor_injective : Function.Injective lockFor := by
  intro a b
  cases a <;> cases b <;> simp [lockFor]

@[simp] theorem takeSample_sr (s : State) (b : Sample) : (s.takeSample b).sr = wshift s.sr b := by
  obtain ⟨-, h⟩ | ⟨-, -, -, h⟩ | ⟨e, -, -, -, h⟩ | ⟨e, -, -, h⟩ := takeSample_cases s b <;> simp [h]

/-- SAMPLE consults no table while the window fills, and a complete window in the one table for `lock` (R52, R111). -/
theorem takeSample_tableRead_cases (s : State) (b : Sample) :
    (s.cnt.val < 7 ∧ (s.takeSample b).tableRead = s.tableRead) ∨
    (7 ≤ s.cnt.val ∧ ∃ tb : Table, s.lock = lockFor tb ∧
      (s.takeSample b).tableRead = some ⟨tb, wshift s.sr b, romRead tb (wshift s.sr b)⟩) := by
  obtain ⟨hc, h⟩ | ⟨hc, hl, -, h⟩ | ⟨e, hc, hl, -, h⟩ | ⟨e, hc, hl, h⟩ := takeSample_cases s b
  · exact .inl ⟨hc, by simp [h]⟩
  · exact .inr ⟨hc, .cls, hl, by simp [h]⟩
  · exact .inr ⟨hc, .cls, hl, by simp [h]⟩
  · exact .inr ⟨hc, decodeTable e, hl.trans (lockFor_decodeTable e).symm, by simp [h]⟩

/-- The table of the look-up a state records is `tb`. -/
def State.Consulted (s : State) (tb : Table) : Prop :=
  ∃ r : TableRead, s.tableRead = some r ∧ r.table = tb

theorem not_consulted_of_tableRead_eq_none {s : State} (h : s.tableRead = none) (tb : Table) : ¬ s.Consulted tb := by
  simp [State.Consulted, h]

theorem takeSample_consulted_iff {s : State} (hr : s.tableRead = none) (b : Sample) (tb : Table) :
    (s.takeSample b).Consulted tb ↔ s.lock = lockFor tb ∧ 7 ≤ s.cnt.val := by
  obtain ⟨hc, h⟩ | ⟨hc, tb', hl, h⟩ := takeSample_tableRead_cases s b
  · simp [State.Consulted, h, hr, Nat.not_le_of_lt hc]
  · simp [State.Consulted, h, hc, hl, lockFor_injective.eq_iff]

/-- A step that takes no sample consults no table; one that does is SAMPLE, alone or after FRAME_END, on a word `0-1-`. -/
theorem step_takesSample_cases {s t : State} (h : step s = .next t) :
    (t.tableRead = none ∧ ∀ (w : InWord) (rest : List InWord), s.input = w :: rest → w &&& 0xA#4 ≠ 0x2#4) ∨
    ∃ (w : InWord) (rest : List InWord) (u : State), s.input = w :: rest ∧ w &&& 0xA#4 = 0x2#4 ∧
      (u = s.beginStep ∨ u = s.beginStep.endFrame) ∧ t = u.takeSample (w.extractLsb' 0 1) := by
  obtain ⟨hi, rfl⟩ | ⟨w, rest, hi, ⟨hw, rfl⟩ | ⟨hw, rfl⟩ | ⟨hw, rfl⟩ | ⟨hw, rfl⟩ | ⟨hw, rfl⟩⟩ := step_cases h
  · exact .inl (by simp [hi])
  · exact .inl (by simp [hi, not_takesSample_of_reset hw])
  · exact .inl (by simp [hi, takesSample_iff, hw])
  · exact .inr ⟨w, rest, _, hi, (takesSample_iff w).2 (.inl hw), .inr rfl, rfl⟩
  · exact .inr ⟨w, rest, _, hi, (takesSample_iff w).2 (.inr hw), .inl rfl, rfl⟩
  · exact .inl (by simp [hi, takesSample_iff, hw])

/-- A step consults `CLS` exactly on a word `0-1-` (SAMPLE or FRAME_END_SAMPLE) that completes a window while
SEARCHING (R96). -/
theorem step_consulted_cls_iff {s t : State} (h : step s = .next t) :
    t.Consulted .cls ↔ s.lock = .unknown ∧ 7 ≤ s.cnt.val ∧
      ∃ (w : InWord) (rest : List InWord), s.input = w :: rest ∧ w &&& 0xA#4 = 0x2#4 := by
  obtain ⟨hr, hw⟩ | ⟨w, rest, u, hi, hw, hu, rfl⟩ := step_takesSample_cases h
  · exact iff_of_false (not_consulted_of_tableRead_eq_none hr .cls) fun ⟨_, _, w, rest, hi, hw'⟩ => hw w rest hi hw'
  · have hword : ∃ (w : InWord) (rest : List InWord), s.input = w :: rest ∧ w &&& 0xA#4 = 0x2#4 := ⟨w, rest, hi, hw⟩
    rw [and_iff_left hword]
    obtain rfl | rfl := hu
    · exact takeSample_consulted_iff rfl _ .cls
    · exact (takeSample_consulted_iff (by simp) _ .cls).trans (endFrame_lock_cnt_iff s.beginStep)

/-- The entry a step records is the one its table holds at the window just completed (R45). -/
theorem step_tableRead {s t : State} {r : TableRead} (h : step s = .next t) (hr : t.tableRead = some r) :
    r.window = t.sr ∧ r.entry = romRead r.table r.window := by
  obtain ⟨hn, -⟩ | ⟨w, rest, u, -, -, hu, rfl⟩ := step_takesSample_cases h
  · simp [hn] at hr
  · have hun : u.tableRead = none := by obtain rfl | rfl := hu <;> simp
    obtain ⟨-, ht⟩ | ⟨-, tb, -, ht⟩ := takeSample_tableRead_cases u (w.extractLsb' 0 1)
    · simp [ht, hun] at hr
    · obtain rfl := Option.some.inj (ht.symm.trans hr)
      simp

/-- Settles O27, by what a step can consult and what it can do to an open frame. -/
theorem classifierConsulted : Obligations.ClassifierConsulted := by
  unfold Obligations.ClassifierConsulted
  intro s t h
  refine ⟨step_consulted_cls_iff h, fun hl => ?_⟩
  obtain hl' | ⟨e, he⟩ := encoding_cases s.lock
  · exact absurd hl' hl
  obtain ⟨ht, hev | ⟨b, hev⟩⟩ | ⟨ht, hev | hev⟩ := step_locked_cases h he <;> simp [ht, hev]

/-- Settles O11: every entry is an Encoding or a bit by its table, the classes are disjoint and leave 0x00 out, and a
step's entry depends on the table and the window alone. -/
theorem tablesTotalDisjointIdempotent : Obligations.TablesTotalDisjointIdempotent := by
  unfold Obligations.TablesTotalDisjointIdempotent
  refine ⟨fun w => ⟨classify w, rfl, fun f hf => ((romRead_cls_eq_iff w f).1 hf).symm⟩, fun w => ⟨decodeA w, rfl⟩,
    fun w => ⟨decodeB w, rfl⟩, ?disjoint, ⟨0x00, by decide⟩, ?idempotent⟩
  case disjoint =>
    rintro w ⟨hA, hB⟩
    rw [romRead_cls_eq_iff, classify_eq_encodingA_iff] at hA
    rw [romRead_cls_eq_iff, classify_eq_encodingB_iff] at hB
    exact not_mem_startWindowsA_of_mem_startWindowsB hB hA
  case idempotent =>
    intro s t u v r q hs hu hr hq htable hwindow
    obtain ⟨-, hre⟩ := step_tableRead hs hr
    obtain ⟨-, hqe⟩ := step_tableRead hu hq
    rw [hre, hqe, htable, hwindow]

end Sys2Proof.Machine

/-!
SUPPORT. The demodulator's statements: the ones and zeros of `DECA` and `DECB`, and the steps that consult a decode table.
-/

namespace Sys2Proof.Machine

open Sys2Proof

/-! ## The bits of `DECA` -/

theorem romRead_deca_eq_iff (w : Window) (b : LogicalBit) : romRead .deca w = .bit b ↔ decodeA w = b := by
  simp [romRead]

theorem decodeA_eq_one_iff (w : Window) : decodeA w = 1#1 ↔ w ∈ oneWindowsA := by
  unfold decodeA
  split_ifs <;> simp [*]

theorem decodeA_eq_zero_iff (w : Window) : decodeA w = 0#1 ↔ w ∉ oneWindowsA := by
  unfold decodeA
  split_ifs <;> simp [*]

/-- Settles O8: the ones are the list `DECA` is built from, and the zeros are counted over all 256 windows. -/
theorem decodeATable : Obligations.DecodeATable := by
  unfold Obligations.DecodeATable
  refine ⟨fun w => ?ones, fun w => ?zeros, ?count⟩
  case ones =>
    rw [romRead_deca_eq_iff, decodeA_eq_one_iff]
    simp [oneWindowsA]
  case zeros =>
    rw [romRead_deca_eq_iff, decodeA_eq_zero_iff]
    simp [oneWindowsA]
  case count => decide +kernel

/-! ## The bits of `DECB` -/

theorem romRead_decb_eq_iff (w : Window) (b : LogicalBit) : romRead .decb w = .bit b ↔ decodeB w = b := by
  simp [romRead]

theorem decodeB_eq_one_iff (w : Window) :
    decodeB w = 1#1 ↔ hiNibble w ∈ oneHighNibblesB ∧ loNibble w ∈ oneLowNibblesB := by
  unfold decodeB
  split_ifs <;> simp [*]

theorem decodeB_eq_zero_iff (w : Window) :
    decodeB w = 0#1 ↔ ¬ (hiNibble w ∈ oneHighNibblesB ∧ loNibble w ∈ oneLowNibblesB) := by
  unfold decodeB
  split_ifs <;> simp [*]

/-- The high nibble by a shift (R67 (b)). -/
theorem setWidth_hiNibble (w : Window) : (hiNibble w).setWidth 8 = w >>> 4 := by
  revert w; decide

/-- The low nibble by a mask (R67 (b)). -/
theorem setWidth_loNibble (w : Window) : (loNibble w).setWidth 8 = w &&& 0x0F := by
  revert w; decide

theorem setWidth_nibble_injective : Function.Injective (BitVec.setWidth 8 : BitVec 4 → Window) := by
  intro a b
  revert a b; decide

theorem hiNibble_mem_oneHighNibblesB_iff (w : Window) :
    hiNibble w ∈ oneHighNibblesB ↔ w >>> 4 ∈ oneHighNibblesB.map (BitVec.setWidth 8) := by
  rw [← setWidth_hiNibble, List.mem_map_of_injective setWidth_nibble_injective]

theorem loNibble_mem_oneLowNibblesB_iff (w : Window) :
    loNibble w ∈ oneLowNibblesB ↔ w &&& 0x0F ∈ oneLowNibblesB.map (BitVec.setWidth 8) := by
  rw [← setWidth_loNibble, List.mem_map_of_injective setWidth_nibble_injective]

/-- Settles O9: the ones are given by the two lists of nibbles `DECB` is built from, read off the window by shift and
mask, and the zeros are counted over all 256 windows. -/
theorem decodeBTable : Obligations.DecodeBTable := by
  unfold Obligations.DecodeBTable
  refine ⟨?nibbles, ?count⟩
  case nibbles =>
    rintro w hi lo rfl rfl
    rw [romRead_decb_eq_iff, romRead_decb_eq_iff, decodeB_eq_one_iff, decodeB_eq_zero_iff,
      hiNibble_mem_oneHighNibblesB_iff, loNibble_mem_oneLowNibblesB_iff]
    simp [oneHighNibblesB, oneLowNibblesB]
  case count => decide +kernel

/-! ## When a decode table is consulted -/

/-- After FRAME_END the block is SEARCHING (R112). -/
@[simp] theorem State.endFrame_lock (s : State) : s.endFrame.lock = .unknown := by
  obtain hl | ⟨e, hl⟩ := encoding_cases s.lock
  · rw [endFrame_searching s hl, hl]
  · simp [endFrame_locked s e hl]

theorem takeSample_consulted_decodeTable_iff {s : State} (hr : s.tableRead = none) (b : Sample) (e : LockedEncoding) :
    (s.takeSample b).Consulted (decodeTable e) ↔ s.lock = encodingOf e ∧ 7 ≤ s.cnt.val := by
  rw [takeSample_consulted_iff hr, lockFor_decodeTable]

/-- The sample of a FRAME_END_SAMPLE is no data: it is taken SEARCHING (R113). -/
theorem not_endFrame_takeSample_consulted_decodeTable {s : State} (hr : s.tableRead = none) (b : Sample)
    (e : LockedEncoding) : ¬ (s.endFrame.takeSample b).Consulted (decodeTable e) := by
  rw [takeSample_consulted_decodeTable_iff (by simpa using hr), State.endFrame_lock]
  exact fun ⟨hl, _⟩ => encodingOf_ne_unknown e hl.symm

/-- A step is a SAMPLE, on a word `001-`, or it consults no decode table. -/
theorem step_sample_cases {s t : State} (h : step s = .next t) :
    ((∀ e, ¬ t.Consulted (decodeTable e)) ∧
      ∀ (w : InWord) (rest : List InWord), s.input = w :: rest → w &&& 0xE#4 ≠ 0x2#4) ∨
    ∃ (w : InWord) (rest : List InWord), s.input = w :: rest ∧ w &&& 0xE#4 = 0x2#4 ∧
      t = s.beginStep.takeSample (w.extractLsb' 0 1) := by
  obtain ⟨hi, rfl⟩ | ⟨w, rest, hi, ⟨hw, rfl⟩ | ⟨hw, rfl⟩ | ⟨hw, rfl⟩ | ⟨hw, rfl⟩ | ⟨hw, rfl⟩⟩ := step_cases h
  · exact .inl ⟨fun _ => not_consulted_of_tableRead_eq_none rfl _, by simp [hi]⟩
  · have hs : w &&& 0xE#4 ≠ 0x2#4 := fun hs => not_takesSample_of_reset hw ((takesSample_iff w).2 (.inr hs))
    exact .inl ⟨fun _ => not_consulted_of_tableRead_eq_none rfl _, by simp [hi, hs]⟩
  · exact .inl ⟨fun _ => not_consulted_of_tableRead_eq_none (by simp) _, by simp [hi, hw]⟩
  · exact .inl ⟨not_endFrame_takeSample_consulted_decodeTable rfl _, by simp [hi, hw]⟩
  · exact .inr ⟨w, rest, hi, hw, rfl⟩
  · exact .inl ⟨fun _ => not_consulted_of_tableRead_eq_none rfl _, by simp [hi, hw]⟩

/-- Settles O28: a SAMPLE consults the table of its lock where it completes a window, and no other step consults a
decode table. -/
theorem demodulatorConsulted : Obligations.DemodulatorConsulted := by
  unfold Obligations.DemodulatorConsulted
  intro s t h e
  obtain ⟨hn, hw⟩ | ⟨w, rest, hi, hw, rfl⟩ := step_sample_cases h
  · exact iff_of_false (hn e) fun ⟨_, _, w, rest, hi, hw'⟩ => hw w rest hi hw'
  · have hword : ∃ (w : InWord) (rest : List InWord), s.input = w :: rest ∧ w &&& 0xE#4 = 0x2#4 := ⟨w, rest, hi, hw⟩
    rw [and_iff_left hword]
    exact takeSample_consulted_decodeTable_iff rfl _ e

end Sys2Proof.Machine

/-!
SUPPORT. The engine's statement: which input words take the block out of a frame, and the encoding every other word keeps.
-/

namespace Sys2Proof.Machine

open Sys2Proof

/-- A word is a FRAME_END, FRAME_END_SAMPLE or RESET just when it is neither a SAMPLE nor an IDLE (R66). -/
theorem leavesFrame_iff (w : InWord) :
    w &&& 0xC#4 = 0x4#4 ∨ w &&& 0x8#4 = 0x8#4 ↔ w &&& 0xE#4 ≠ 0x2#4 ∧ w &&& 0xE#4 ≠ 0x0#4 := by
  revert w; decide

/-- The next input word is a FRAME_END, a FRAME_END_SAMPLE or a RESET (R116). -/
def State.LeavesFrameNext (s : State) : Prop :=
  ∃ (w : InWord) (rest : List InWord), s.input = w :: rest ∧ (w &&& 0xC#4 = 0x4#4 ∨ w &&& 0x8#4 = 0x8#4)

theorem not_leavesFrameNext_of_input_nil {s : State} (hi : s.input = []) : ¬ s.LeavesFrameNext := by
  simp [State.LeavesFrameNext, hi]

theorem leavesFrameNext_iff_of_input_cons {s : State} {w : InWord} {rest : List InWord} (hi : s.input = w :: rest) :
    s.LeavesFrameNext ↔ w &&& 0xE#4 ≠ 0x2#4 ∧ w &&& 0xE#4 ≠ 0x0#4 := by
  simp [State.LeavesFrameNext, hi, leavesFrame_iff]

/-- SAMPLE keeps the lock of a frame, whether or not it completes a window (R119). -/
theorem takeSample_lock_of_locked (s : State) (b : Sample) (e : LockedEncoding) (hl : s.lock = encodingOf e) :
    (s.takeSample b).lock = s.lock := by
  by_cases hc : s.cnt.val < 7
  · simp [takeSample_filling s b hc]
  · simp [takeSample_locked s b e (Nat.le_of_not_lt hc) hl]

/-- A step from LOCKED gives the lock up on a word that leaves the frame, and keeps it on any other (R116, R119). -/
theorem step_locked_lock_cases {s t : State} {e : LockedEncoding} (h : step s = .next t) (hl : s.lock = encodingOf e) :
    (s.LeavesFrameNext ∧ t.lock = .unknown) ∨ (¬ s.LeavesFrameNext ∧ t.lock = s.lock) := by
  obtain ⟨hi, rfl⟩ | ⟨w, rest, hi, ⟨hw, rfl⟩ | ⟨hw, rfl⟩ | ⟨hw, rfl⟩ | ⟨hw, rfl⟩ | ⟨hw, rfl⟩⟩ := step_cases h
  · exact .inr ⟨not_leavesFrameNext_of_input_nil hi, rfl⟩
  · exact .inl ⟨⟨w, rest, hi, .inr hw⟩, rfl⟩
  · exact .inl (by simp [leavesFrameNext_iff_of_input_cons hi, hw])
  · exact .inl (by simp [leavesFrameNext_iff_of_input_cons hi, hw, endFrame_takeSample_locked s.beginStep _ e hl])
  · exact .inr (by simp [leavesFrameNext_iff_of_input_cons hi, hw, takeSample_lock_of_locked s.beginStep _ e hl])
  · exact .inr (by simp [leavesFrameNext_iff_of_input_cons hi, hw])

/-- Settles O26: a step from LOCKED gives up or keeps its lock by the word it takes, and `CLS` is consulted only while
SEARCHING. -/
theorem lockHeldUntilFrameEndOrReset : Obligations.LockHeldUntilFrameEndOrReset := by
  unfold Obligations.LockHeldUntilFrameEndOrReset
  intro s t h hl
  have hcls : ∀ r : TableRead, t.tableRead = some r → r.table ≠ .cls :=
    fun r hr htb => hl ((step_consulted_cls_iff h).1 ⟨r, hr, htb⟩).1
  obtain hl' | ⟨e, he⟩ := encoding_cases s.lock
  · exact absurd hl' hl
  obtain ⟨hw, ht⟩ | ⟨hw, ht⟩ := step_locked_lock_cases h he
  · exact ⟨iff_of_true ht hw, fun hn => absurd ht hn, hcls⟩
  · exact ⟨iff_of_false (ht ▸ hl) hw, fun _ => ht, hcls⟩

end Sys2Proof.Machine

/-!
SUPPORT. The statements on exceptions: no instruction faults or is refused, and each event has its one cause.
-/

namespace Sys2Proof.Machine

open Sys2Proof

/-! ## Every operation completes -/

theorem exec_completes (i : Instr) (s : State) : ∃ t : State, exec i s = .next t := by
  cases i <;> exact ⟨_, rfl⟩

theorem step_completes (s : State) : ∃ t : State, step s = .next t :=
  exec_completes _ _

theorem run_completes (k : Nat) (s : State) : ∃ t : State, core.run k s = .next t := by
  induction k generalizing s with
  | zero => exact ⟨s, run_zero s⟩
  | succ k ih =>
    obtain ⟨t, ht⟩ := step_completes s
    rw [run_succ ht]
    exact ih t

/-- Settles O23: every arm of `exec` answers a next state, hence every step does, and a run is an induction over its
steps. -/
theorem noTerminalState : Obligations.NoTerminalState := by
  unfold Obligations.NoTerminalState
  exact ⟨step_completes, exec_completes, run_completes⟩

/-! ## The causes of the events -/

@[simp] theorem encodingOf_inj (e f : LockedEncoding) : encodingOf e = encodingOf f ↔ e = f := by
  cases e <;> cases f <;> simp [encodingOf]

@[simp] theorem unknown_ne_encodingOf (e : LockedEncoding) : .unknown ≠ encodingOf e :=
  (encodingOf_ne_unknown e).symm

/-- A word `01--` ends a frame: it is a FRAME_END or a FRAME_END_SAMPLE (R66). -/
theorem endsFrame_iff (w : InWord) : w &&& 0xC#4 = 0x4#4 ↔ w &&& 0xE#4 = 0x4#4 ∨ w &&& 0xE#4 = 0x6#4 := by
  revert w; decide

theorem not_endsFrame_of_reset {w : InWord} (h : w &&& 0x8#4 = 0x8#4) : w &&& 0xC#4 ≠ 0x4#4 := by
  revert w; decide

/-- The cause of an event (R141), in the state before the step and its input word. -/
def State.Causes (s : State) : Event → Prop
  | .frameStarted e => s.lock = .unknown ∧ 7 ≤ s.cnt.val ∧
      ∃ (w : InWord) (rest : List InWord), s.input = w :: rest ∧ w &&& 0xA#4 = 0x2#4 ∧
        classify (wshift s.sr (w.extractLsb' 0 1)) = encodingOf e
  | .bit b e => s.lock = encodingOf e ∧ 7 ≤ s.cnt.val ∧
      ∃ (w : InWord) (rest : List InWord), s.input = w :: rest ∧ w &&& 0xE#4 = 0x2#4 ∧
        decodeBit e (wshift s.sr (w.extractLsb' 0 1)) = b
  | .frameEnded => s.lock ≠ .unknown ∧
      ∃ (w : InWord) (rest : List InWord), s.input = w :: rest ∧ w &&& 0xC#4 = 0x4#4

/-- The cause of an event in a SAMPLE whose window is `w`, complete or not (R111). -/
def State.WindowCauses (s : State) (w : Window) : Event → Prop
  | .frameStarted e => s.lock = .unknown ∧ 7 ≤ s.cnt.val ∧ classify w = encodingOf e
  | .bit b e => s.lock = encodingOf e ∧ 7 ≤ s.cnt.val ∧ decodeBit e w = b
  | .frameEnded => False

/-- From `s` to `t` no event goes out and none has a cause, or one goes out and it alone has a cause. -/
def State.EmitsCaused (s t : State) (cause : Event → Prop) : Prop :=
  (t.events = s.events ∧ ∀ e, ¬ cause e) ∨ ∃ e, t.events = s.events ++ [e] ∧ ∀ f, cause f ↔ f = e

theorem State.EmitsCaused.congr {s t : State} {cause cause' : Event → Prop} (h : s.EmitsCaused t cause)
    (hc : ∀ e, cause' e ↔ cause e) : s.EmitsCaused t cause' := by
  simpa only [State.EmitsCaused, hc] using h

theorem State.EmitsCaused.events_cases {s t : State} {cause : Event → Prop} (h : s.EmitsCaused t cause) :
    t.events = s.events ∨ ∃ e : Event, t.events = s.events ++ [e] :=
  h.imp And.left fun ⟨e, hev, _⟩ => ⟨e, hev⟩

theorem State.EmitsCaused.events_eq_iff {s t : State} {cause : Event → Prop} (h : s.EmitsCaused t cause) (e : Event) :
    t.events = s.events ++ [e] ↔ cause e := by
  obtain ⟨hev, hc⟩ | ⟨f, hev, hc⟩ := h
  · simp [hev, hc]
  · simp [hev, hc, eq_comm]

theorem takeSample_emitsCaused (s : State) (b : Sample) :
    s.EmitsCaused (s.takeSample b) (s.WindowCauses (wshift s.sr b)) := by
  obtain ⟨hc, h⟩ | ⟨-, hl, hw, h⟩ | ⟨e, hc, hl, hw, h⟩ | ⟨e, hc, hl, h⟩ := takeSample_cases s b
  · refine .inl ⟨by simp [h], fun f => ?_⟩
    cases f <;> simp [State.WindowCauses, Nat.not_le_of_lt hc]
  · refine .inl ⟨by simp [h], fun f => ?_⟩
    cases f <;> simp [State.WindowCauses, hl, hw]
  · refine .inr ⟨.frameStarted e, by simp [h], fun f => ?_⟩
    cases f <;> simp [State.WindowCauses, hl, hc, hw, eq_comm]
  · refine .inr ⟨.bit (decodeBit e (wshift s.sr b)) e, by simp [h], fun f => ?_⟩
    cases f with
    | frameStarted _ => simp [State.WindowCauses, hl]
    | bit b' e' =>
      simp only [State.WindowCauses, hl, hc, encodingOf_inj, true_and, Event.bit.injEq]
      constructor <;> (rintro ⟨rfl, rfl⟩; exact ⟨rfl, rfl⟩)
    | frameEnded => simp [State.WindowCauses]

theorem not_causes_of_input_nil {s : State} (hi : s.input = []) (e : Event) : ¬ s.Causes e := by
  cases e <;> simp [State.Causes, hi]

/-- A word that neither carries a sample nor ends a frame causes no event. -/
theorem not_causes_of_input_cons {s : State} {w : InWord} {rest : List InWord} (hi : s.input = w :: rest)
    (hs : w &&& 0xA#4 ≠ 0x2#4) (hf : w &&& 0xC#4 ≠ 0x4#4) (e : Event) : ¬ s.Causes e := by
  have hb : w &&& 0xE#4 ≠ 0x2#4 := fun hb => hs ((takesSample_iff w).2 (.inr hb))
  cases e <;> simp [State.Causes, hi, hs, hf, hb]

theorem causes_iff_windowCauses_of_sample {s : State} {w : InWord} {rest : List InWord} (hi : s.input = w :: rest)
    (hw : w &&& 0xE#4 = 0x2#4) (e : Event) :
    s.Causes e ↔ s.WindowCauses (wshift s.sr (w.extractLsb' 0 1)) e := by
  cases e <;> simp [State.Causes, State.WindowCauses, hi, takesSample_iff, endsFrame_iff, hw]

/-- While SEARCHING a FRAME_END_SAMPLE can cause what its SAMPLE half does (R113). -/
theorem causes_iff_windowCauses_of_frameEndSample {s : State} {w : InWord} {rest : List InWord}
    (hi : s.input = w :: rest) (hw : w &&& 0xE#4 = 0x6#4) (hl : s.lock = .unknown) (e : Event) :
    s.Causes e ↔ s.WindowCauses (wshift s.sr (w.extractLsb' 0 1)) e := by
  cases e <;> simp [State.Causes, State.WindowCauses, hi, takesSample_iff, hw, hl]

theorem not_causes_of_frameEnd_searching {s : State} {w : InWord} {rest : List InWord}
    (hi : s.input = w :: rest) (hw : w &&& 0xE#4 = 0x4#4) (hl : s.lock = .unknown) (e : Event) : ¬ s.Causes e := by
  cases e <;> simp [State.Causes, hi, takesSample_iff, hw, hl]

/-- From LOCKED a word `01--` causes `FrameEnded` and no other event (R112, R113). -/
theorem causes_iff_of_endsFrame_locked {s : State} {w : InWord} {rest : List InWord} {e : LockedEncoding}
    (hi : s.input = w :: rest) (hw : w &&& 0xC#4 = 0x4#4) (hl : s.lock = encodingOf e) (f : Event) :
    s.Causes f ↔ f = .frameEnded := by
  have hb : w &&& 0xE#4 ≠ 0x2#4 := by obtain h | h := (endsFrame_iff w).1 hw <;> simp [h]
  cases f <;> simp [State.Causes, hi, hw, hb, hl]

/-- The event a step emits is the one with a cause (R141). -/
theorem step_emitsCaused {s t : State} (h : step s = .next t) : s.EmitsCaused t s.Causes := by
  obtain ⟨hi, rfl⟩ | ⟨w, rest, hi, ⟨hw, rfl⟩ | ⟨hw, rfl⟩ | ⟨hw, rfl⟩ | ⟨hw, rfl⟩ | ⟨hw, rfl⟩⟩ := step_cases h
  · exact .inl ⟨rfl, not_causes_of_input_nil hi⟩
  · exact .inl ⟨rfl, not_causes_of_input_cons hi (not_takesSample_of_reset hw) (not_endsFrame_of_reset hw)⟩
  · obtain hl | ⟨e, hl⟩ := encoding_cases s.lock
    · exact .inl ⟨by simp [endFrame_searching s.beginStep hl], not_causes_of_frameEnd_searching hi hw hl⟩
    · exact .inr ⟨.frameEnded, by simp [endFrame_locked s.beginStep e hl],
        causes_iff_of_endsFrame_locked hi ((endsFrame_iff w).2 (.inl hw)) hl⟩
  · obtain hl | ⟨e, hl⟩ := encoding_cases s.lock
    · rw [endFrame_searching s.beginStep hl]
      exact (takeSample_emitsCaused s.beginStep _).congr (causes_iff_windowCauses_of_frameEndSample hi hw hl)
    · exact .inr ⟨.frameEnded, by simp [endFrame_takeSample_locked s.beginStep _ e hl],
        causes_iff_of_endsFrame_locked hi ((endsFrame_iff w).2 (.inr hw)) hl⟩
  · exact (takeSample_emitsCaused s.beginStep _).congr (causes_iff_windowCauses_of_sample hi hw)
  · exact .inl ⟨rfl, not_causes_of_input_cons hi (by simp [takesSample_iff, hw]) (by simp [endsFrame_iff, hw])⟩

theorem takeSample_lock_of_start (s : State) (b : Sample) {e : LockedEncoding} (hc : 7 ≤ s.cnt.val)
    (hl : s.lock = .unknown) (hw : classify (wshift s.sr b) = encodingOf e) : (s.takeSample b).lock = encodingOf e := by
  simp [takeSample_searching s b hc hl, searchWindow_start _ _ e hw]

/-- A step that starts a frame locks it to the encoding it announces (R111). -/
theorem step_lock_of_causes_frameStarted {s t : State} {e : LockedEncoding} (h : step s = .next t)
    (hc : s.Causes (.frameStarted e)) : t.lock = encodingOf e := by
  obtain ⟨hl, hcnt, w, rest, hi, hw, hcls⟩ := hc
  obtain ⟨-, hn⟩ | ⟨w', rest', u, hi', -, hu, rfl⟩ := step_takesSample_cases h
  · exact absurd hw (hn w rest hi)
  obtain ⟨rfl, rfl⟩ := List.cons.inj (hi.symm.trans hi')
  obtain rfl : u = s.beginStep := hu.elim id fun hu => hu.trans (endFrame_searching s.beginStep hl)
  exact takeSample_lock_of_start s.beginStep _ hcnt hl hcls

/-- Settles O25: a step emits the event with a cause, so each event goes out just when its cause holds. -/
theorem eventCauses : Obligations.EventCauses := by
  unfold Obligations.EventCauses
  intro s t h
  have hs := step_emitsCaused h
  exact ⟨hs.events_cases, fun e => hs.events_eq_iff (.frameStarted e),
    fun e he => step_lock_of_causes_frameStarted h ((hs.events_eq_iff _).1 he),
    fun b e => hs.events_eq_iff (.bit b e), hs.events_eq_iff .frameEnded⟩

end Sys2Proof.Machine

/-!
SUPPORT. The decoder and the encoder are inverse to each other, and a row of a table run by itself reads the entry of its
code. The output words and the mnemonics follow.
-/

namespace Sys2Proof.Machine

open Sys2Proof

/-! ## Decode and encode agree -/

/-- Settles O1: the match and mask of each of the five rows, over the sixteen input words. -/
theorem inputWordMap : Obligations.InputWordMap := by
  unfold Obligations.InputWordMap
  decide

/-- The patterns of well-formedness and the rows of the decoder list the same windows (R73). -/
theorem isSome_listedRow (t : Table) (w : Window) : (listedRow t w).isSome = !(defaultRow t w).wf := by
  cases t <;> (revert w; decide)

theorem decodeWindow_of_wf_defaultRow {t : Table} {w : Window} (h : (defaultRow t w).wf = true) :
    decodeWindow t w = defaultRow t w := by
  have hn : listedRow t w = none := by simpa [h] using isSome_listedRow t w
  simp [decodeWindow, hn]

/-- Settles O3: the code of a listed row is read back by running the decoder on each of its values, and the window of a
default row is listed nowhere. -/
theorem decodeEncode : Obligations.DecodeEncode := by
  unfold Obligations.DecodeEncode
  intro i h
  cases i with
  | classifyDefault w => exact decodeWindow_of_wf_defaultRow (t := .cls) h
  | decodeADefault w => exact decodeWindow_of_wf_defaultRow (t := .deca) h
  | decodeBDefault w => exact decodeWindow_of_wf_defaultRow (t := .decb) h
  | frameEndSample b | sample b | decodeB50 b | decodeB70 b | decodeB90 b | decodeBA0 b | decodeBB0 b | decodeBC0 b
  | decodeBD0 b | decodeBE0 b | decodeBF0 b => clear h; revert b; decide
  | _ => rfl

/-- A listed row is well formed, and its code is the window that selects it. -/
theorem encode_of_listedRow {t : Table} {w : Window} {i : Instr} (h : listedRow t w = some i) :
    i.wf = true ∧ encode i = .window t w := by
  have hall : ∀ j ∈ listedRow t w, j.wf = true ∧ encode j = .window t w := by
    cases t <;> (clear h; revert w; decide)
  exact hall i h

theorem wf_decodeWindow (t : Table) (w : Window) : (decodeWindow t w).wf = true := by
  cases h : listedRow t w with
  | none => simpa [decodeWindow, h] using isSome_listedRow t w
  | some i => simpa [decodeWindow, h] using (encode_of_listedRow h).1

theorem encode_decodeWindow (t : Table) (w : Window) : encode (decodeWindow t w) = .window t w := by
  cases h : listedRow t w with
  | none => cases t <;> simp [decodeWindow, h, defaultRow, encode]
  | some i => simpa [decodeWindow, h] using (encode_of_listedRow h).2

/-- Settles O4: a window selects a listed row or the default row, and each has that window as its code; the sixteen input
words are run through. -/
theorem encodeDecode : Obligations.EncodeDecode := by
  unfold Obligations.EncodeDecode
  refine ⟨fun c => ?wf, encode_decodeWindow, by decide⟩
  case wf =>
    cases c with
    | input w => revert w; decide
    | window t w => exact wf_decodeWindow t w

/-- Settles O2: the decoder run on each of the words. -/
theorem decodedWords : Obligations.DecodedWords := by
  unfold Obligations.DecodedWords
  decide

/-! ## The rows of the tables as instructions -/

/-- An instruction whose code is a window reads that window's entry of its table, and does no more (R90, R105). -/
theorem exec_of_encode_window {i : Instr} {t : Table} {w : Window} (h : encode i = .window t w) (s : State) :
    exec i s = .next (s.consult t w) := by
  cases i <;> cases h <;> rfl

/-- A row of a table, with the entry that stands there. -/
theorem exec_row {i : Instr} {t : Table} {w : Window} {entry : TableEntry} (hi : encode i = .window t w)
    (he : romRead t w = entry) (s : State) : exec i s = .next { s with tableRead := some ⟨t, w, entry⟩ } := by
  subst he
  exact exec_of_encode_window hi s

/-- Settles O15: the row a window selects has that window as its code. -/
theorem rowOfWindowReadsItsEntry : Obligations.RowOfWindowReadsItsEntry := by
  unfold Obligations.RowOfWindowReadsItsEntry
  exact fun t w s => exec_of_encode_window (encode_decodeWindow t w) s

/-- The windows `CLS` does not list are the Unknown ones (R93). -/
theorem classify_of_wf_default (w : Window) : (Instr.classifyDefault w).wf = true → classify w = .unknown := by
  revert w; decide

theorem decodeA_of_wf_default (w : Window) : (Instr.decodeADefault w).wf = true → decodeA w = 0#1 := by
  revert w; decide

theorem decodeB_of_wf_default (w : Window) : (Instr.decodeBDefault w).wf = true → decodeB w = 0#1 := by
  revert w; decide

/-- Settles O12: each listed row by its code and its entry, and the default row by what `CLS` does not list. -/
theorem classifierRows : Obligations.ClassifierRows := by
  unfold Obligations.ClassifierRows
  refine fun s => ⟨exec_row rfl rfl s, exec_row rfl rfl s, exec_row rfl rfl s, exec_row rfl rfl s, exec_row rfl rfl s,
    exec_row rfl rfl s, exec_row rfl rfl s, exec_row rfl rfl s, exec_row rfl rfl s, exec_row rfl rfl s,
    exec_row rfl rfl s, exec_row rfl rfl s, fun w hw => exec_row rfl ?_ s⟩
  rw [romRead_cls_eq_iff, classify_of_wf_default w hw]

/-- Settles O13: each listed row by its code and its entry, and the default row by what `DECA` does not list. -/
theorem decodeARows : Obligations.DecodeARows := by
  unfold Obligations.DecodeARows
  refine fun s => ⟨exec_row rfl rfl s, exec_row rfl rfl s, exec_row rfl rfl s, exec_row rfl rfl s, exec_row rfl rfl s,
    exec_row rfl rfl s, fun w hw => exec_row rfl ?_ s⟩
  exact (romRead_deca_eq_iff w 0).2 (decodeA_of_wf_default w hw)

/-- A pair of `DECB`, from its first window on (R101). -/
theorem exec_pair {i : BitVec 1 → Instr} {base : Window}
    (h : ∀ lo, encode (i lo) = .window .decb (base + lo.setWidth 8) ∧ decodeB (base + lo.setWidth 8) = 1#1)
    (s : State) (lo : BitVec 1) :
    exec (i lo) s = .next { s with tableRead := some ⟨.decb, base + lo.setWidth 8, .bit 1⟩ } :=
  exec_row (h lo).1 ((romRead_decb_eq_iff _ _).2 (h lo).2) s

/-- Settles O14: each pair by the codes and entries of its two windows, and the default row by what `DECB` does not
list. -/
theorem decodeBRows : Obligations.DecodeBRows := by
  unfold Obligations.DecodeBRows
  refine fun s lo => ⟨exec_pair (by decide) s lo, exec_pair (by decide) s lo, exec_pair (by decide) s lo,
    exec_pair (by decide) s lo, exec_pair (by decide) s lo, exec_pair (by decide) s lo, exec_pair (by decide) s lo,
    exec_pair (by decide) s lo, exec_pair (by decide) s lo, fun w hw => exec_row rfl ?_ s⟩
  exact (romRead_decb_eq_iff w 0).2 (decodeB_of_wf_default w hw)

/-- Settles O10: the two classes are run through against the decode tables, and so are the one-bit variants. -/
theorem tableRelations : Obligations.TableRelations := by
  unfold Obligations.TableRelations
  refine ⟨fun w hw => ?startB, fun w hw => ?startA, by decide, by decide, by decide, by decide, by decide⟩
  case startB =>
    have hall : ∀ w ∈ startWindowsB, decodeB w = 1#1 := by decide
    exact hall w ((classify_eq_encodingB_iff w).1 hw)
  case startA =>
    have hall : ∀ w ∈ startWindowsA, decodeA w = 0#1 ∧ decodeB w = 0#1 := by decide
    exact hall w ((classify_eq_encodingA_iff w).1 hw)

/-! ## The output words and the mnemonics -/

/-- The eight outputs of a step: no event, or one of seven (R74). -/
def outputs : List (Option Event) :=
  [none, some (.frameStarted .encodingA), some (.frameStarted .encodingB), some (.bit 0#1 .encodingA),
   some (.bit 1#1 .encodingA), some (.bit 0#1 .encodingB), some (.bit 1#1 .encodingB), some .frameEnded]

theorem mem_outputs : ∀ e : Option Event, e ∈ outputs
  | none => by decide
  | some (.frameStarted enc) => by cases enc <;> decide
  | some (.bit b enc) => by cases enc <;> (revert b; decide)
  | some .frameEnded => by decide

/-- Settles O5: the eight outputs are run through, for their words and for two of them that share one. -/
theorem outputWords : Obligations.OutputWords := by
  unfold Obligations.OutputWords
  refine ⟨by decide, by decide, by decide, by decide, by decide, by decide, by decide, by decide, fun e => ?word,
    fun e f => ?inj⟩
  case word =>
    have hall : ∀ e ∈ outputs, outWord e ∈ [0x00#5, 0x0A#5, 0x0C#5, 0x12#5, 0x13#5, 0x14#5, 0x15#5, 0x18#5] := by
      decide
    exact hall e (mem_outputs e)
  case inj =>
    have hall : ∀ e ∈ outputs, ∀ f ∈ outputs, outWord e = outWord f → e = f := by decide
    exact hall e (mem_outputs e) f (mem_outputs f)

theorem disassemble_assemble : ∀ m : TraceOp, disassemble (assemble m) = m
  | .s b | .fes b => by revert b; decide
  | .fe | .rst | .nop => by decide

/-- Settles O6: the seven mnemonics one by one, and the sixteen words. -/
theorem traceNotation : Obligations.TraceNotation := by
  unfold Obligations.TraceNotation
  exact ⟨by decide, disassemble_assemble, by decide⟩

end Sys2Proof.Machine

/-!
SUPPORT. What each input operation does, exactly, and what every instruction and every step leave unchanged.
-/

namespace Sys2Proof.Machine

open Sys2Proof

/-! ## The five input operations -/

/-- WSHIFT by R80's arithmetic. -/
theorem wshift_eq_ofNat (sr : Window) (b : Sample) : wshift sr b = BitVec.ofNat 8 (sr.toNat * 2 + b.toNat) :=
  BitVec.eq_of_toNat_eq (by rw [wshift_toNat, BitVec.toNat_ofNat])

/-- The output word of a bit is its `kind` and `enc` fields before the bit itself (R64). -/
theorem outWord_bit_encodingA (b : LogicalBit) : outWord (some (.bit b .encodingA)) = 0b1001#4 ++ b := by
  revert b; decide

theorem outWord_bit_encodingB (b : LogicalBit) : outWord (some (.bit b .encodingB)) = 0b1010#4 ++ b := by
  revert b; decide

theorem countNext_of_filling {c : Fin 9} (h : c.val < 7) : (countNext c).val = c.val + 1 := by
  rw [countNext_val]
  omega

theorem countNext_of_complete {c : Fin 9} (h : 7 ≤ c.val) : countNext c = 8 :=
  Fin.ext (min_eq_right (Nat.succ_le_succ h))

theorem consult_cls (s : State) {w : Window} {e : Encoding} (h : classify w = e) :
    s.consult .cls w = { s with tableRead := some ⟨.cls, w, .encoding e⟩ } := by
  rw [State.consult, (romRead_cls_eq_iff w e).2 h]

theorem exec_sample (b : Sample) (s : State) : exec (.sample b) s = .next (s.takeSample b) := rfl

theorem exec_frameEndSample (b : Sample) (s : State) :
    exec (.frameEndSample b) s = .next (s.endFrame.takeSample b) := rfl

/-- Settles O16: the four ends of SAMPLE, the last two for each encoding. -/
theorem sampleResult : Obligations.SampleResult := by
  unfold Obligations.SampleResult
  intro s b w hw
  obtain rfl : w = wshift s.sr b := hw.trans (wshift_eq_ofNat s.sr b).symm
  rw [exec_sample]
  refine ⟨fun hc => ?filling, fun hc hl hw => ?slide, fun hc hl hw => ?startA, fun hc hl hw => ?startB,
    fun hc hl => ?bitA, fun hc hl => ?bitB⟩
  case filling => exact ⟨countNext s.cnt, countNext_of_filling hc, by rw [takeSample_filling s b hc]⟩
  case slide => rw [takeSample_searching s b hc hl, searchWindow_unknown _ _ hw, consult_cls _ hw]
  case startA => rw [takeSample_searching s b hc hl, searchWindow_start _ _ .encodingA hw, consult_cls _ hw]; rfl
  case startB => rw [takeSample_searching s b hc hl, searchWindow_start _ _ .encodingB hw, consult_cls _ hw]; rfl
  case bitA => rw [takeSample_locked s b .encodingA hc hl, ← outWord_bit_encodingA]; rfl
  case bitB => rw [takeSample_locked s b .encodingB hc hl, ← outWord_bit_encodingB]; rfl

theorem exists_encodingOf_of_ne_unknown {e : Encoding} (h : e ≠ .unknown) : ∃ l, e = encodingOf l :=
  (encoding_cases e).resolve_left h

/-- Settles O17, by what FRAME_END does to a frame and without one. -/
theorem frameEndResult : Obligations.FrameEndResult := by
  unfold Obligations.FrameEndResult
  refine fun s => ⟨fun hl => ?locked, fun hl => congrArg _ (endFrame_searching s hl)⟩
  case locked =>
    obtain ⟨e, he⟩ := exists_encodingOf_of_ne_unknown hl
    exact congrArg _ (endFrame_locked s e he)

/-- Settles O18: the sample is taken in what FRAME_END leaves, an empty buffer if it ended a frame and the same state if
not. -/
theorem frameEndSampleResult : Obligations.FrameEndSampleResult := by
  unfold Obligations.FrameEndSampleResult
  refine fun s b => ⟨fun hl => ?locked, fun hl => ⟨s.takeSample b, ?searching, rfl⟩⟩
  case locked =>
    obtain ⟨e, he⟩ := exists_encodingOf_of_ne_unknown hl
    rw [← wshift_eq_ofNat]
    exact congrArg _ (endFrame_takeSample_locked s b e he)
  case searching =>
    rw [exec_frameEndSample, endFrame_searching s hl]

/-- Settles O19: the update of RESET is the statement's. -/
theorem resetResult : Obligations.ResetResult := by
  unfold Obligations.ResetResult
  exact fun _ => rfl

/-- Settles O20: the meaning of IDLE is the state itself. -/
theorem idleResult : Obligations.IdleResult := by
  unfold Obligations.IdleResult
  exact fun _ => rfl

/-! ## The frame of an instruction -/

/-- From `s` to `t` the event `e` goes out, if there is one, with its output word, and no input word is taken. -/
structure State.Emits (s t : State) (e : Option Event) : Prop where
  input : t.input = s.input
  events : t.events = s.events ++ e.toList
  out : t.out = e.elim s.out fun e => outWord (some e)

theorem State.emits_none {s t : State} (hi : t.input = s.input) (he : t.events = s.events) (ho : t.out = s.out) :
    s.Emits t none :=
  ⟨hi, by simp [he], ho⟩

theorem State.Emits.events_isPrefix {s t : State} {e : Option Event} (h : s.Emits t e) : s.events <+: t.events :=
  ⟨e.toList, h.events.symm⟩

theorem State.Emits.out_of_events_eq {s t : State} {e : Option Event} (h : s.Emits t e) (he : t.events = s.events) :
    t.out = s.out := by
  cases e with
  | none => exact h.out
  | some e => simpa [he] using h.events

theorem takeSample_emits (s : State) (b : Sample) : ∃ e, s.Emits (s.takeSample b) e := by
  obtain ⟨-, h⟩ | ⟨-, -, -, h⟩ | ⟨e, -, -, -, h⟩ | ⟨e, -, -, h⟩ := takeSample_cases s b <;> rw [h]
  · exact ⟨none, State.emits_none rfl rfl rfl⟩
  · exact ⟨none, State.emits_none rfl rfl rfl⟩
  · exact ⟨some (.frameStarted e), rfl, rfl, rfl⟩
  · exact ⟨some (.bit (decodeBit e (wshift s.sr b)) e), rfl, rfl, rfl⟩

theorem endFrame_emits (s : State) : ∃ e, s.Emits s.endFrame e := by
  obtain hl | ⟨e, hl⟩ := encoding_cases s.lock
  · exact ⟨none, by rw [endFrame_searching s hl]; exact State.emits_none rfl rfl rfl⟩
  · exact ⟨some .frameEnded, by rw [endFrame_locked s e hl]; exact ⟨rfl, rfl, rfl⟩⟩

/-- FRAME_END_SAMPLE emits for the frame it ends or for its sample, never for both: the sample after a `FrameEnded` is the
first of its window. -/
theorem endFrame_takeSample_emits (s : State) (b : Sample) : ∃ e, s.Emits (s.endFrame.takeSample b) e := by
  obtain hl | ⟨e, hl⟩ := encoding_cases s.lock
  · rw [endFrame_searching s hl]
    exact takeSample_emits s b
  · exact ⟨some .frameEnded, by rw [endFrame_takeSample_locked s b e hl]; exact ⟨rfl, rfl, rfl⟩⟩

/-- Every instruction emits at most one event (R122). -/
theorem exec_emits {i : Instr} {s t : State} (h : exec i s = .next t) : ∃ e, s.Emits t e := by
  cases i with
  | frameEnd => cases h; exact endFrame_emits s
  | frameEndSample b => cases h; exact endFrame_takeSample_emits s b
  | sample b => cases h; exact takeSample_emits s b
  | _ => cases h; exact ⟨none, State.emits_none rfl rfl rfl⟩

@[simp] theorem State.endFrame_sr (s : State) : s.endFrame.sr = s.sr := by
  unfold State.endFrame
  split <;> rfl

/-- Settles O21, from what every instruction emits and the frame of each operation. -/
theorem instructionFrame : Obligations.InstructionFrame := by
  unfold Obligations.InstructionFrame
  intro i s t h
  obtain ⟨e, he⟩ := exec_emits h
  refine ⟨he.input, he.events_isPrefix, he.out_of_events_eq, ?ends, ?reset, fun tb w hi => ?row, ?sample⟩
  case ends =>
    rintro (rfl | rfl) <;> cases h
    · exact ⟨s.endFrame_sr, s.endFrame_tableRead⟩
    · exact ⟨rfl, rfl⟩
  case reset =>
    rintro rfl
    cases h
    exact ⟨rfl, rfl⟩
  case row =>
    rw [exec_of_encode_window hi] at h
    cases h
    exact ⟨rfl, rfl⟩
  case sample =>
    rintro b rfl hl
    cases h
    obtain ⟨e, he⟩ := exists_encodingOf_of_ne_unknown hl
    exact takeSample_lock_of_locked s b e he

/-! ## The step -/

theorem step_of_input_cons {s : State} {w : InWord} {rest : List InWord} (hi : s.input = w :: rest) :
    step s = exec (decode (.input w)) s.beginStep := by
  rw [step, s.nextCode_cons w rest hi]

/-- Settles O22: the next code is the input word presented, or that of IDLE. -/
theorem stepRunsDecoded : Obligations.StepRunsDecoded := by
  unfold Obligations.StepRunsDecoded
  refine fun s => ⟨fun w rest hi => ?word, fun hi => ?none⟩
  case word =>
    rw [step_of_input_cons hi, State.beginStep, hi]
    rfl
  case none =>
    rw [step, s.nextCode_nil hi]
    exact congrArg (exec .idle) (by simp [State.beginStep, hi, outWord])

/-- Settles O24: a step begins with no event out, so its output word is that of the event its instruction emits. -/
theorem atMostOneEvent : Obligations.AtMostOneEvent := by
  unfold Obligations.AtMostOneEvent
  intro s t h
  obtain ⟨e, he⟩ := exec_emits h
  exact ⟨e, he.events, by rw [he.out]; cases e <;> rfl⟩

theorem step_input {s t : State} (h : step s = .next t) : t.input = s.input.tail := by
  obtain ⟨e, he⟩ := exec_emits h
  exact he.input

theorem step_events_isPrefix {s t : State} (h : step s = .next t) : s.events <+: t.events := by
  obtain ⟨e, he⟩ := exec_emits h
  exact he.events_isPrefix

/-- A RESET word resets the registers, whatever the state (R114). -/
theorem step_of_reset_word {s : State} {w : InWord} {rest : List InWord} (hi : s.input = w :: rest)
    (hw : w &&& 0x8#4 = 0x8#4) : step s = .next s.beginStep.resetRegisters := by
  rw [step_of_input_cons hi, (inputWordMap w).1 hw]
  rfl

/-- Settles O32: the fields of the reset state, and the step on a RESET word. -/
theorem resetState : Obligations.ResetState := by
  unfold Obligations.ResetState
  exact ⟨rfl, rfl, rfl, rfl, rfl, rfl, rfl, fun s w rest hi hw => ⟨_, step_of_reset_word hi hw, rfl, rfl, rfl⟩⟩

/-- Settles O29: the read of a step is the entry of its table at the new `sr`, and so is that of the row. -/
theorem stepReadsTheRow : Obligations.StepReadsTheRow := by
  unfold Obligations.StepReadsTheRow
  intro s t r h hr
  obtain ⟨hw, he⟩ := step_tableRead h hr
  exact ⟨hw, _, rowOfWindowReadsItsEntry r.table r.window s, by rw [← he]⟩

/-! ## A placed word -/

theorem decode_sampleWord (b : Sample) : decode (.input (0b001#3 ++ b)) = .sample b := by
  revert b; decide

/-- Seven samples of a window in the buffer and its eighth make the window (R80). -/
theorem wshift_ushiftRight_one (w : Window) : wshift (w >>> 1) (w.extractLsb' 0 1) = w := by
  revert w; decide

/-- A window placed is completed by the very next step, in the table it was placed for. -/
theorem step_placeCode_window (s : State) (tb : Table) (w : Window) :
    ∃ t : State, step (s.placeCode (.window tb w)) = .next t ∧ t.tableRead = some ⟨tb, w, romRead tb w⟩ := by
  refine ⟨(s.placeCode (.window tb w)).beginStep.takeSample (w.extractLsb' 0 1), ?step, ?read⟩
  case step => rw [step_of_input_cons rfl, decode_sampleWord, exec_sample]
  case read =>
    obtain ⟨hc, -⟩ | ⟨-, tb', hl, hr⟩ :=
      takeSample_tableRead_cases (s.placeCode (.window tb w)).beginStep (w.extractLsb' 0 1)
    · exact absurd hc (by simp [State.placeCode])
    · obtain rfl : tb = tb' := lockFor_injective hl
      rw [hr, show wshift (s.placeCode (.window tb w)).beginStep.sr _ = w from wshift_ushiftRight_one w]

theorem step_placeCode_input (s : State) (w : InWord) :
    step (s.placeCode (.input w)) = exec (decode (.input w)) { s with out := 0x00, tableRead := none } := rfl

theorem tableCode_of_inputWord {n : Nat} (h : n < 16) : tableCode 8 n = some (.input (BitVec.ofNat 4 n)) := by
  simp [tableCode, h]

theorem tableCode_of_window {n : Nat} (h : 16 ≤ n) (h' : n < 256) :
    tableCode 8 n = some (.window (windowHome (BitVec.ofNat 8 n)) (BitVec.ofNat 8 n)) := by
  simp [tableCode, h', Nat.not_lt_of_le h]

/-- Settles O30, by the step of a placed window and of a placed input word. -/
theorem placedWordRuns : Obligations.PlacedWordRuns := by
  unfold Obligations.PlacedWordRuns
  refine ⟨fun s t n h h' ht => ?window, fun s n h => ?input⟩
  case window =>
    rw [State.withFetchWord, tableCode_of_window h h'] at ht
    obtain ⟨u, hu, hr⟩ := step_placeCode_window s (windowHome (BitVec.ofNat 8 n)) (BitVec.ofNat 8 n)
    cases hu.symm.trans ht
    exact hr
  case input =>
    rw [State.withFetchWord, tableCode_of_inputWord h]
    exact step_placeCode_input s _

end Sys2Proof.Machine

/-!
SUPPORT. The invariants: the bound on the count of a locked engine, and the shape of the event stream, within a run
without a RESET and across them.
-/

namespace Sys2Proof.Machine

open Sys2Proof

/-- Settles O33: the reset state is SEARCHING and its event stream is empty. -/
theorem invAtReset : Obligations.InvAtReset := by
  unfold Obligations.InvAtReset
  exact ⟨fun h => absurd rfl h, rfl, fun _ h => by cases h⟩

/-! ## The count of a locked engine -/

theorem State.inv_of_searching {s : State} (h : s.lock = .unknown) : s.Inv :=
  fun hl => absurd h hl

theorem State.inv_of_cnt_le {s : State} (h : s.cnt ≤ 7) : s.Inv :=
  fun _ => h

theorem State.Inv.searching_of_full {s : State} (h : s.Inv) (hc : s.cnt = 8) : s.lock = .unknown := by
  by_contra hl
  exact absurd (h hl) (by rw [hc]; decide)

/-- A sample leaves a full buffer only while SEARCHING: a locked engine empties it (R125). -/
theorem takeSample_inv (s : State) (b : Sample) : (s.takeSample b).Inv := by
  obtain ⟨hc, h⟩ | ⟨-, hl, -, h⟩ | ⟨e, -, -, -, h⟩ | ⟨e, -, -, h⟩ := takeSample_cases s b <;> rw [h]
  · exact State.inv_of_cnt_le (Fin.le_def.2 ((countNext_of_filling hc).trans_le hc))
  · exact State.inv_of_searching hl
  · exact State.inv_of_cnt_le (by simp)
  · exact State.inv_of_cnt_le (by simp)

theorem step_inv {s t : State} (hs : s.Inv) (h : step s = .next t) : t.Inv := by
  obtain ⟨-, rfl⟩ | ⟨w, rest, -, ⟨-, rfl⟩ | ⟨-, rfl⟩ | ⟨-, rfl⟩ | ⟨-, rfl⟩ | ⟨-, rfl⟩⟩ := step_cases h
  · exact hs
  · exact State.inv_of_searching rfl
  · exact State.inv_of_searching (State.endFrame_lock _)
  · exact takeSample_inv _ _
  · exact takeSample_inv _ _
  · exact hs

/-- Settles O34: the invariant is kept by every operation of a step, and a full buffer is ruled out by it while LOCKED. -/
theorem stepKeepsInv : Obligations.StepKeepsInv := by
  unfold Obligations.StepKeepsInv
  intro s t hs h
  have ht := step_inv hs h
  exact ⟨ht, ht.searching_of_full⟩

/-! ## The events of a run without a RESET -/

/-- The events from `s` to `t` go on from the open frame of `s.lock`, frame after frame, and leave open that of `t.lock`
(R123). -/
def State.GoesOn (s t : State) : Prop :=
  ∃ new : List Event, t.events = s.events ++ new ∧ shaped false (lockedOf s.lock) new = true ∧
    openAfter (lockedOf s.lock) new = lockedOf t.lock

theorem State.goesOn_of_same {s t : State} (he : t.events = s.events) (hl : t.lock = s.lock) : s.GoesOn t :=
  ⟨[], by simp [he], rfl, by simp [openAfter, hl]⟩

theorem State.goesOn_of_event {s t : State} {e : Event} (he : t.events = s.events ++ [e])
    (hm : e.mayFollow false (lockedOf s.lock) = true) (hl : e.leavesOpen = lockedOf t.lock) : s.GoesOn t :=
  ⟨[e], he, by simp [shaped, hm], hl⟩

theorem State.GoesOn.trans {s t u : State} (h : s.GoesOn t) (h' : t.GoesOn u) : s.GoesOn u := by
  obtain ⟨new, hev, hsh, hop⟩ := h
  obtain ⟨new', hev', hsh', hop'⟩ := h'
  exact ⟨new ++ new', by rw [hev', hev, List.append_assoc], by rw [shaped_append, hsh, hop, hsh']; rfl,
    by rw [openAfter_append, hop, hop']⟩

theorem beginStep_goesOn (s : State) : s.GoesOn s.beginStep :=
  State.goesOn_of_same rfl rfl

theorem endFrame_goesOn (s : State) : s.GoesOn s.endFrame := by
  obtain hl | ⟨e, hl⟩ := encoding_cases s.lock
  · rw [endFrame_searching s hl]
    exact State.goesOn_of_same rfl rfl
  · rw [endFrame_locked s e hl]
    exact State.goesOn_of_event rfl (by simp [Event.mayFollow, hl]) rfl

theorem takeSample_goesOn (s : State) (b : Sample) : s.GoesOn (s.takeSample b) := by
  obtain ⟨-, h⟩ | ⟨-, -, -, h⟩ | ⟨e, -, hl, -, h⟩ | ⟨e, -, hl, h⟩ := takeSample_cases s b <;> rw [h]
  · exact State.goesOn_of_same rfl rfl
  · exact State.goesOn_of_same rfl rfl
  · exact State.goesOn_of_event rfl (by simp [Event.mayFollow, hl, lockedOf]) (by simp [Event.leavesOpen])
  · exact State.goesOn_of_event rfl (by simp [Event.mayFollow, hl]) (by simp [Event.leavesOpen, hl])

/-- A step goes on with the frame, or is a RESET, which says nothing of it (R114). -/
theorem step_goesOn_or_reset {s t : State} (h : step s = .next t) :
    s.GoesOn t ∨
    ((∃ (w : InWord) (rest : List InWord), s.input = w :: rest ∧ w &&& 0x8#4 = 0x8#4) ∧
      t.events = s.events ∧ t.lock = .unknown) := by
  obtain ⟨-, rfl⟩ | ⟨w, rest, hi, ⟨hw, rfl⟩ | ⟨-, rfl⟩ | ⟨-, rfl⟩ | ⟨-, rfl⟩ | ⟨-, rfl⟩⟩ := step_cases h
  · exact .inl (beginStep_goesOn s)
  · exact .inr ⟨⟨w, rest, hi, hw⟩, rfl, rfl⟩
  · exact .inl ((beginStep_goesOn s).trans (endFrame_goesOn _))
  · exact .inl (((beginStep_goesOn s).trans (endFrame_goesOn _)).trans (takeSample_goesOn _ _))
  · exact .inl ((beginStep_goesOn s).trans (takeSample_goesOn _ _))
  · exact .inl (beginStep_goesOn s)

/-- A run of at least one step is a step and the run from where it leads. -/
theorem run_succ_cases {k : Nat} {s t : State} (h : core.run (k + 1) s = .next t) :
    ∃ u : State, step s = .next u ∧ core.run k u = .next t := by
  obtain ⟨u, hu⟩ := step_completes s
  exact ⟨u, hu, run_succ hu ▸ h⟩

/-- Settles O36, by induction on the number of steps: each goes on where the one before stopped. -/
theorem framesBetweenResets : Obligations.FramesBetweenResets := by
  unfold Obligations.FramesBetweenResets
  intro k
  induction k with
  | zero =>
    intro s t _ h
    cases h
    exact State.goesOn_of_same rfl rfl
  | succ k ih =>
    intro s t hw h
    obtain ⟨u, hu, hrun⟩ := run_succ_cases h
    have htake : ∀ w ∈ u.input.take k, w ∈ s.input.take (k + 1) := by
      rw [step_input hu]
      cases s.input <;> simp +contextual
    obtain hsu | ⟨⟨w, rest, hi, hreset⟩, -⟩ := step_goesOn_or_reset hu
    · exact hsu.trans (ih u t (fun w hm => hw w (htake w hm)) hrun)
    · exact absurd hreset (hw w (by simp [hi]))

/-! ## The event stream across RESETs -/

/-- Where a RESET may have left a frame open, a stream that goes on from what the engine is locked to still has its
shape: it starts with a bit or the end of that frame, or with a new frame. -/
theorem shaped_acrossResets {open_ open' : Option LockedEncoding} {es : List Event}
    (ho : ∀ e, open_ = some e → open' = some e) (h : shaped false open_ es = true) : shaped true open' es = true := by
  induction es generalizing open_ open' with
  | nil => rfl
  | cons e es ih =>
    simp only [shaped, Bool.and_eq_true] at h ⊢
    obtain ⟨hm, hes⟩ := h
    refine ⟨?_, ih (fun _ => id) hes⟩
    cases e with
    | frameStarted _ => rfl
    | bit b e => simpa [Event.mayFollow] using ho e (by simpa [Event.mayFollow] using hm)
    | frameEnded =>
      obtain ⟨e, he⟩ := Option.isSome_iff_exists.1 hm
      simp [Event.mayFollow, ho e he]

theorem openAfter_acrossResets {open_ open' : Option LockedEncoding} (ho : ∀ e, open_ = some e → open' = some e)
    (es : List Event) : ∀ e, openAfter open_ es = some e → openAfter open' es = some e := by
  cases es with
  | nil => exact ho
  | cons _ _ => exact fun _ => id

theorem State.Framed.goesOn {s t : State} (hs : s.Framed) (h : s.GoesOn t) : t.Framed := by
  obtain ⟨hshape, hopen⟩ := hs
  obtain ⟨new, hev, hnew, hlock⟩ := h
  rw [State.Framed, hev, shaped_append, openAfter_append, hshape, ← hlock]
  exact ⟨shaped_acrossResets hopen hnew, openAfter_acrossResets hopen new⟩

/-- Settles O35: a step goes on with the frame of the lock, or a RESET leaves the stream and no lock. -/
theorem stepKeepsFramed : Obligations.StepKeepsFramed := by
  unfold Obligations.StepKeepsFramed
  intro s t hs h
  obtain hg | ⟨-, hev, hl⟩ := step_goesOn_or_reset h
  · exact hs.goesOn hg
  · obtain ⟨hshape, -⟩ := hs
    exact ⟨hev ▸ hshape, by simp [hl, lockedOf]⟩

end Sys2Proof.Machine

/-!
SUPPORT. The samples of a window: the bits a shift leaves where, the pending samples, and runs of SAMPLE words that fill the
buffer, decode a frame, or search.
-/

namespace Sys2Proof.Machine

open Sys2Proof

/-! ## The bits of the buffer -/

theorem getLsbD_wshift_zero (sr : Window) (b : Sample) : (wshift sr b).getLsbD 0 = b.getLsbD 0 :=
  BitVec.getLsbD_append

theorem getLsbD_wshift_succ (sr : Window) (b : Sample) {i : Nat} (hi : i < 7) :
    (wshift sr b).getLsbD (i + 1) = sr.getLsbD i := by
  refine BitVec.getLsbD_append.trans ?_
  simp [hi]

theorem getLsbD_sample (b : Sample) : b.getLsbD 0 = (b == 1#1) := by
  revert b; decide

@[simp] theorem pending_zero (sr : Window) : pending sr 0 = [] := rfl

/-- A sample shifted in stands after those that were pending. -/
theorem pending_wshift (sr : Window) (b : Sample) {m n : Fin 9} (h : n.val = m.val + 1) :
    pending (wshift sr b) n = pending sr m ++ [b == 1#1] := by
  have hold : (List.range m.val).reverse.map (fun i => (wshift sr b).getLsbD (i + 1)) = pending sr m :=
    List.map_congr_left fun i hi => by
      have hi : i < m.val := by simpa using hi
      exact getLsbD_wshift_succ sr b (by omega)
  rw [pending, h, List.range_succ_eq_map]
  rw [List.reverse_cons, List.map_append, ← List.map_reverse, List.map_map, ← hold, List.map_singleton,
    getLsbD_wshift_zero, getLsbD_sample]
  rfl

theorem pending_tail (sr : Window) {m n : Fin 9} (h : n.val = m.val + 1) : (pending sr n).tail = pending sr m := by
  simp [pending, h, List.range_succ]

theorem pending_eq_iff (sr sr' : Window) (c : Fin 9) :
    pending sr c = pending sr' c ↔ ∀ i < c.val, sr.getLsbD i = sr'.getLsbD i := by
  simp [pending]

/-- Seven pending samples and one more are the whole window. -/
theorem wshift_eq_of_pending_eq {sr sr' : Window} {c : Fin 9} (hc : 7 ≤ c.val) (h : pending sr c = pending sr' c)
    (b : Sample) : wshift sr b = wshift sr' b := by
  rw [pending_eq_iff] at h
  refine BitVec.eq_of_getLsbD_eq fun i hi => ?_
  cases i with
  | zero => rw [getLsbD_wshift_zero, getLsbD_wshift_zero]
  | succ i => rw [getLsbD_wshift_succ _ _ (by omega), getLsbD_wshift_succ _ _ (by omega), h i (by omega)]

/-- Settles O39: a sample that fills is appended to what was pending, one that slides on drops the oldest of eight, and
one that emits leaves the count at 0. -/
theorem pendingSamples : Obligations.PendingSamples := by
  unfold Obligations.PendingSamples
  intro s t b ht
  cases ht
  obtain ⟨hc, h⟩ | ⟨hc, -, -, h⟩ | ⟨e, -, -, -, h⟩ | ⟨e, -, -, h⟩ := takeSample_cases s b <;> rw [h]
  · refine ⟨fun _ _ => pending_wshift s.sr b (countNext_of_filling hc), fun h8 => ?_, fun he => absurd rfl he⟩
    simp [h8] at hc
  · refine ⟨fun h8 _ => pending_wshift s.sr b ?_, fun h8 _ => ?_, fun he => absurd rfl he⟩
    · change 8 = s.cnt.val + 1
      omega
    · rw [h8, pending_tail s.sr (m := 7) rfl]
      exact pending_wshift s.sr b rfl
  · simp
  · simp

/-! ## Runs of SAMPLE words -/

theorem step_of_sample_word {s : State} {w : InWord} {rest : List InWord} (hi : s.input = w :: rest)
    (hw : isSampleWord w = true) : step s = .next (s.beginStep.takeSample (w.extractLsb' 0 1)) := by
  obtain ⟨-, -, -, hsample, -⟩ := inputWordMap w
  rw [step_of_input_cons hi, hsample (by simpa [isSampleWord] using hw), exec_sample]

/-- `t` comes after the samples of the words `ws` from `s`, before `rest`, where they only fill the buffer. -/
structure State.Filled (s : State) (ws rest : List InWord) (t : State) : Prop where
  sr : t.sr = (ws.map fun w => w.extractLsb' 0 1).foldl wshift s.sr
  cnt : t.cnt.val = s.cnt.val + ws.length
  lock : t.lock = s.lock
  input : t.input = rest
  events : t.events = s.events
  tableRead : s.tableRead = none ∨ ws ≠ [] → t.tableRead = none

/-- While no window is complete, samples fill the buffer and do no more (R111). -/
theorem run_filling {ws rest : List InWord} {s : State} (hw : ∀ w ∈ ws, isSampleWord w = true)
    (hi : s.input = ws ++ rest) (hc : s.cnt.val + ws.length < 8) :
    ∃ t : State, s.Filled ws rest t ∧ ∀ k, core.run (ws.length + k) s = core.run k t := by
  induction ws generalizing s with
  | nil => exact ⟨s, ⟨rfl, rfl, rfl, hi, rfl, by simp⟩, fun k => by simp⟩
  | cons w ws ih =>
    simp only [List.length_cons] at hc ⊢
    have hstep := step_of_sample_word hi (hw w List.mem_cons_self)
    rw [takeSample_filling s.beginStep _ (show s.cnt.val < 7 by omega)] at hstep
    have hn : (countNext s.cnt).val = s.cnt.val + 1 := countNext_of_filling (by omega)
    obtain ⟨t, ht, hrun⟩ := ih (fun v hv => hw v (List.mem_cons_of_mem w hv)) (by rw [step_input hstep, hi]; rfl)
      (show (countNext s.cnt).val + ws.length < 8 by omega)
    refine ⟨t, ⟨ht.sr, ?cnt, ht.lock, ht.input, ht.events, fun _ => ht.tableRead (.inl rfl)⟩, fun k => ?run⟩
    case cnt =>
      rw [ht.cnt, List.length_cons]
      change (countNext s.cnt).val + ws.length = _
      omega
    case run => rw [Nat.add_right_comm, run_succ hstep, hrun]

/-! ## A window delivered -/

@[simp] theorem extractLsb'_sampleWord (b : Sample) : (0b001#3 ++ b : InWord).extractLsb' 0 1 = b := by
  revert b; decide

theorem isSampleWord_sampleWord (b : Sample) : isSampleWord (0b001#3 ++ b) = true := by
  revert b; decide

theorem isSampleWord_of_mem_windowWords {w : Window} {v : InWord} (h : v ∈ windowWords w) : isSampleWord v = true := by
  simp only [windowWords, windowTrace, List.map_cons, List.map_nil, assemble, List.mem_cons, List.not_mem_nil,
    or_false] at h
  obtain rfl | rfl | rfl | rfl | rfl | rfl | rfl | rfl := h <;> exact isSampleWord_sampleWord _

theorem windowWords_eq_take_append (w : Window) :
    windowWords w = (windowWords w).take 7 ++ [0b001#3 ++ w.extractLsb' 0 1] := rfl

/-- Eight shifts leave nothing of what the buffer held, and put each sample of a window in its place (R85). -/
theorem wshift_foldl_windowWords (sr w : Window) :
    wshift ((((windowWords w).take 7).map fun v => v.extractLsb' 0 1).foldl wshift sr) (w.extractLsb' 0 1) = w := by
  simp only [windowWords, windowTrace, assemble, List.map_cons, List.map_nil, List.take_succ_cons, List.take_zero,
    List.foldl_cons, List.foldl_nil, extractLsb'_sampleWord]
  refine BitVec.eq_of_getLsbD_eq fun i hi => ?_
  interval_cases i <;>
    simp only [getLsbD_wshift_zero, getLsbD_wshift_succ, Nat.reduceLT, BitVec.getLsbD_extractLsb', Nat.add_zero,
      zero_lt_one, decide_true, Bool.true_and]

/-- The eight words of a window, from an empty buffer, are seven that fill it and the one that completes the window. -/
theorem run_windowWords {s : State} {w : Window} {rest : List InWord} (hc : s.cnt = 0)
    (hi : s.input = windowWords w ++ rest) :
    ∃ t : State, s.Filled ((windowWords w).take 7) ((0b001#3 ++ w.extractLsb' 0 1) :: rest) t ∧ t.cnt.val = 7 ∧
      wshift t.sr (w.extractLsb' 0 1) = w ∧
      core.run 8 s = .next (t.beginStep.takeSample (w.extractLsb' 0 1)) := by
  rw [windowWords_eq_take_append, List.append_assoc] at hi
  have hlen : ((windowWords w).take 7).length = 7 := rfl
  obtain ⟨t, ht, hrun⟩ := run_filling (fun v hv => isSampleWord_of_mem_windowWords (List.mem_of_mem_take hv)) hi
    (by simp [hlen, hc])
  have hstep := step_of_sample_word ht.input (isSampleWord_sampleWord _)
  rw [extractLsb'_sampleWord] at hstep
  refine ⟨t, ht, by simp [ht.cnt, hc, hlen], by rw [ht.sr, wshift_foldl_windowWords], ?_⟩
  exact (hrun 1).trans ((run_succ hstep).trans (run_zero _))

/-- Settles O37: the eighth sample finds seven in the buffer, and the window they make is classified or decoded. -/
theorem windowDelivered : Obligations.WindowDelivered := by
  unfold Obligations.WindowDelivered
  intro s w rest hc hi
  obtain ⟨t, ht, hcnt, hsr, hrun⟩ := run_windowWords hc hi
  have h7 : 7 ≤ t.beginStep.cnt.val := hcnt.ge
  have hw : wshift t.beginStep.sr (w.extractLsb' 0 1) = w := hsr
  refine ⟨_, hrun, by rw [takeSample_sr, hw], ?input, fun hl hcls => ?slide, fun e hl hcls => ?start,
    fun e hl => ?bit⟩
  case input =>
    obtain ⟨e, he⟩ := takeSample_emits t.beginStep (w.extractLsb' 0 1)
    simp [he.input, ht.input]
  case slide =>
    rw [takeSample_searching t.beginStep _ h7 (ht.lock.trans hl), hw, searchWindow_unknown _ _ hcls]
    exact ⟨ht.lock.trans hl, rfl, ht.events, rfl⟩
  case start =>
    rw [takeSample_searching t.beginStep _ h7 (ht.lock.trans hl), hw, searchWindow_start _ _ e hcls]
    exact ⟨rfl, rfl, by simp [ht.events]⟩
  case bit =>
    rw [takeSample_locked t.beginStep _ e h7 (ht.lock.trans hl), hw]
    exact ⟨ht.lock.trans hl, rfl, by simp [ht.events]⟩

/-! ## While LOCKED: one bit per eight samples -/

/-- `n` samples from `s` to `t` under the lock of `e`: one bit for each eight counted, and the rest still in the count. -/
def State.Decodes (s : State) (e : LockedEncoding) (n : Nat) (t : State) : Prop :=
  ∃ bits : List LogicalBit, t.lock = s.lock ∧ t.cnt.val = (s.cnt.val + n) % 8 ∧
    bits.length = (s.cnt.val + n) / 8 ∧ t.events = s.events ++ bits.map fun b => .bit b e

theorem State.decodes_zero {s : State} (e : LockedEncoding) (hc : s.cnt.val < 8) : s.Decodes e 0 s :=
  ⟨[], rfl, by omega, by simp only [List.length_nil]; omega, by simp⟩

theorem State.Decodes.add {s t u : State} {e : LockedEncoding} {m n : Nat} (h : s.Decodes e m t)
    (h' : t.Decodes e n u) : s.Decodes e (m + n) u := by
  obtain ⟨bits, hl, hc, hlen, hev⟩ := h
  obtain ⟨bits', hl', hc', hlen', hev'⟩ := h'
  refine ⟨bits ++ bits', hl'.trans hl, ?_, ?_, by simp [hev', hev]⟩
  · omega
  · rw [List.length_append]
    omega

theorem takeSample_decodes {s : State} {e : LockedEncoding} (hl : s.lock = encodingOf e) (hc : s.cnt.val < 8)
    (b : Sample) : s.Decodes e 1 (s.takeSample b) := by
  by_cases h7 : s.cnt.val < 7
  · rw [takeSample_filling s b h7]
    have hn := countNext_of_filling h7
    exact ⟨[], rfl, by simp only [hn]; omega, by simp only [List.length_nil]; omega, by simp⟩
  · have h7 : s.cnt.val = 7 := by omega
    rw [takeSample_locked s b e h7.ge hl]
    exact ⟨[decodeBit e (wshift s.sr b)], rfl, by simp [h7], by simp [h7], rfl⟩

theorem run_decodes {ws rest : List InWord} {s : State} {e : LockedEncoding} (hw : ∀ w ∈ ws, isSampleWord w = true)
    (hi : s.input = ws ++ rest) (hl : s.lock = encodingOf e) (hc : s.cnt.val < 8) :
    ∃ t : State, core.run ws.length s = .next t ∧ s.Decodes e ws.length t := by
  induction ws generalizing s with
  | nil => exact ⟨s, rfl, State.decodes_zero e hc⟩
  | cons w ws ih =>
    have hstep := step_of_sample_word hi (hw w List.mem_cons_self)
    have hone : s.Decodes e 1 (s.beginStep.takeSample (w.extractLsb' 0 1)) :=
      takeSample_decodes (s := s.beginStep) hl hc _
    obtain ⟨-, hlock, hcnt, -⟩ := id hone
    obtain ⟨t, hrun, ht⟩ := ih (fun v hv => hw v (List.mem_cons_of_mem w hv)) (by rw [step_input hstep, hi]; rfl)
      (hlock.trans hl) (by omega)
    refine ⟨t, (run_succ hstep).trans hrun, ?_⟩
    rw [List.length_cons, Nat.add_comm]
    exact hone.add ht

/-- Settles O40: the count of samples and of bits adds up over the run, here from an empty buffer. -/
theorem lockedCadence : Obligations.LockedCadence := by
  unfold Obligations.LockedCadence
  intro ws rest s e hw hi hl hc
  obtain ⟨t, hrun, bits, hlock, hcnt, hlen, hev⟩ := run_decodes hw hi hl (by simp [hc])
  exact ⟨t, bits, hrun, hlock, by simpa [hc] using hcnt, by simpa [hc] using hlen, hev⟩

/-! ## While SEARCHING: one window per sample, from the eighth on -/

theorem run_events_isPrefix {k : Nat} {s t : State} (h : core.run k s = .next t) : s.events <+: t.events := by
  induction k generalizing s with
  | zero => cases h; exact ⟨[], List.append_nil _⟩
  | succ k ih =>
    obtain ⟨u, hu, hrun⟩ := run_succ_cases h
    exact (step_events_isPrefix hu).trans (ih hrun)

/-- A sample that starts no frame leaves the engine SEARCHING, one sample further on. -/
theorem takeSample_searching_quiet {s : State} {b : Sample} (hl : s.lock = .unknown)
    (he : (s.takeSample b).events = s.events) :
    (s.takeSample b).lock = .unknown ∧ (s.takeSample b).cnt = countNext s.cnt := by
  obtain ⟨-, h⟩ | ⟨hc, -, -, h⟩ | ⟨e, -, -, -, h⟩ | ⟨e, -, hl', -⟩ := takeSample_cases s b
  · simp [h, hl]
  · exact ⟨by simp [h, hl], by rw [countNext_of_complete hc, h]⟩
  · simp [h] at he
  · simp [hl] at hl'

/-- Samples that reach a full buffer and start no frame end in a look at `CLS`. -/
theorem run_searching {ws rest : List InWord} {s t : State} (hw : ∀ w ∈ ws, isSampleWord w = true) (hne : ws ≠ [])
    (hi : s.input = ws ++ rest) (hl : s.lock = .unknown) (hc : 8 ≤ s.cnt.val + ws.length)
    (h : core.run ws.length s = .next t) (he : t.events = s.events) :
    t.cnt = 8 ∧ t.lock = .unknown ∧ t.Consulted .cls := by
  induction ws generalizing s with
  | nil => exact absurd rfl hne
  | cons w ws ih =>
    have hstep := step_of_sample_word hi (hw w List.mem_cons_self)
    rw [List.length_cons] at hc
    have hrun : core.run ws.length (s.beginStep.takeSample (w.extractLsb' 0 1)) = .next t :=
      (run_succ hstep).symm.trans h
    have hquiet : (s.beginStep.takeSample (w.extractLsb' 0 1)).events = s.events := by
      have hlen := (run_events_isPrefix hrun).length_le
      exact ((step_events_isPrefix hstep).eq_of_length_le (he ▸ hlen)).symm
    obtain ⟨hlock, hcnt⟩ := takeSample_searching_quiet (s := s.beginStep) hl hquiet
    by_cases hws : ws = []
    · subst hws
      cases hrun
      have h7 : 7 ≤ s.cnt.val := by simpa using hc
      exact ⟨hcnt.trans (countNext_of_complete h7), hlock, (takeSample_consulted_iff rfl _ .cls).2 ⟨hl, h7⟩⟩
    · refine ih (fun v hv => hw v (List.mem_cons_of_mem w hv)) hws (by rw [step_input hstep, hi]; rfl) hlock ?_ hrun
        (he.trans hquiet.symm)
      have := List.length_pos_iff.2 hws
      rw [hcnt, countNext_val, State.beginStep_cnt]
      omega

/-- Settles O41: fewer than eight samples fill the buffer, and from a full buffer on every one completes a window. -/
theorem searchCadence : Obligations.SearchCadence := by
  unfold Obligations.SearchCadence
  refine fun ws rest s hw hi hl hc => ⟨fun hlen => ?short, fun t hlen h he => ?long⟩
  case short =>
    obtain ⟨t, ht, hrun⟩ := run_filling hw hi (by simpa [hc] using hlen)
    exact ⟨t, hrun 0, ht.lock.trans hl, by simp [ht.cnt, hc], ht.events, fun hne => ht.tableRead (.inr hne)⟩
  case long =>
    exact run_searching hw (List.length_pos_iff.1 (by omega)) hi hl (by omega) h he

end Sys2Proof.Machine

/-!
SUPPORT. Two runs side by side: what a step reads of its state is the lock, the count, the pending samples and the input
word, so runs that agree on these emit the same events.
-/

namespace Sys2Proof.Machine

open Sys2Proof

/-! ## Relations between two states that every operation keeps -/

/-- Whatever relates two states relates what any one operation makes of both. -/
structure OpsKeep (R : State → State → Prop) : Prop where
  resetRegisters {s u : State} : R s u → R s.resetRegisters u.resetRegisters
  endFrame {s u : State} : R s u → R s.endFrame u.endFrame
  takeSample {s u : State} (b : Sample) : R s u → R (s.takeSample b) (u.takeSample b)
  consult {s u : State} (t : Table) (w : Window) : R s u → R (s.consult t w) (u.consult t w)

theorem OpsKeep.exec {R : State → State → Prop} (hR : OpsKeep R) {i : Instr} {s u s' u' : State} (h : R s u)
    (hs : exec i s = .next s') (hu : exec i u = .next u') : R s' u' := by
  cases i with
  | reset => cases hs; cases hu; exact hR.resetRegisters h
  | frameEnd => cases hs; cases hu; exact hR.endFrame h
  | frameEndSample b => cases hs; cases hu; exact hR.takeSample b (hR.endFrame h)
  | sample b => cases hs; cases hu; exact hR.takeSample b h
  | idle => cases hs; cases hu; exact h
  | _ => cases hs; cases hu; exact hR.consult _ _ h

/-- Two steps on one input word run one instruction. -/
theorem OpsKeep.step {R : State → State → Prop} (hR : OpsKeep R) {s u s' u' : State}
    (h : R s.beginStep u.beginStep) (hi : s.nextCode = u.nextCode) (hs : step s = .next s') (hu : step u = .next u') :
    R s' u' :=
  hR.exec h hs (by rw [hi]; exact hu)

/-! ## The same course -/

/-- `s` and `u` agree on all that a step reads or gives but the input, and since `es` and `eu` they have emitted the same
events. Of `sr` they share the pending samples (R31). -/
structure State.SameCourse (es eu : List Event) (s u : State) : Prop where
  lock : s.lock = u.lock
  cnt : s.cnt = u.cnt
  pending : pending s.sr s.cnt = pending u.sr u.cnt
  out : s.out = u.out
  tableRead : s.tableRead = u.tableRead
  events : ∃ new : List Event, s.events = es ++ new ∧ u.events = eu ++ new

/-- Two event streams that have grown by the same events grow by one more. -/
theorem exists_new_append {es eu xs ys : List Event}
    (h : ∃ new : List Event, xs = es ++ new ∧ ys = eu ++ new) (e : Event) :
    ∃ new : List Event, xs ++ [e] = es ++ new ∧ ys ++ [e] = eu ++ new := by
  obtain ⟨new, rfl, rfl⟩ := h
  exact ⟨new ++ [e], List.append_assoc .., List.append_assoc ..⟩

section
variable {es eu : List Event} {s u : State}

theorem beginStep_sameCourse (hl : s.lock = u.lock) (hc : s.cnt = u.cnt)
    (hp : pending s.sr s.cnt = pending u.sr u.cnt)
    (he : ∃ new : List Event, s.events = es ++ new ∧ u.events = eu ++ new) :
    State.SameCourse es eu s.beginStep u.beginStep :=
  ⟨hl, hc, hp, rfl, rfl, he⟩

theorem resetRegisters_sameCourse (h : State.SameCourse es eu s u) :
    State.SameCourse es eu s.resetRegisters u.resetRegisters :=
  ⟨rfl, rfl, rfl, h.out, h.tableRead, h.events⟩

theorem consult_sameCourse (t : Table) (w : Window) (h : State.SameCourse es eu s u) :
    State.SameCourse es eu (s.consult t w) (u.consult t w) :=
  ⟨h.lock, h.cnt, h.pending, h.out, rfl, h.events⟩

theorem endFrame_sameCourse (h : State.SameCourse es eu s u) : State.SameCourse es eu s.endFrame u.endFrame := by
  obtain hl | ⟨e, hl⟩ := encoding_cases s.lock
  · rwa [endFrame_searching s hl, endFrame_searching u (h.lock ▸ hl)]
  · rw [endFrame_locked s e hl, endFrame_locked u e (h.lock ▸ hl)]
    exact ⟨rfl, rfl, rfl, rfl, h.tableRead, exists_new_append h.events .frameEnded⟩

/-- A sample completes the same window in both, or stands after the same pending samples. -/
theorem takeSample_sameCourse (b : Sample) (h : State.SameCourse es eu s u) :
    State.SameCourse es eu (s.takeSample b) (u.takeSample b) := by
  by_cases hc : s.cnt.val < 7
  · rw [takeSample_filling s b hc, takeSample_filling u b (h.cnt ▸ hc)]
    refine ⟨h.lock, by rw [h.cnt], ?_, h.out, h.tableRead, h.events⟩
    change pending (wshift s.sr b) (countNext s.cnt) = pending (wshift u.sr b) (countNext u.cnt)
    rw [pending_wshift _ _ (countNext_of_filling hc), pending_wshift _ _ (countNext_of_filling (h.cnt ▸ hc)), h.pending]
  have hc : 7 ≤ s.cnt.val := Nat.le_of_not_lt hc
  have hw : wshift s.sr b = wshift u.sr b := wshift_eq_of_pending_eq hc (h.pending.trans (by rw [h.cnt])) b
  obtain hl | ⟨e, hl⟩ := encoding_cases s.lock
  · rw [takeSample_searching s b hc hl, takeSample_searching u b (h.cnt ▸ hc) (h.lock ▸ hl), hw]
    obtain hcls | ⟨e, hcls⟩ := encoding_cases (classify (wshift u.sr b))
    · rw [searchWindow_unknown _ _ hcls, searchWindow_unknown _ _ hcls]
      exact ⟨h.lock, rfl, rfl, h.out, rfl, h.events⟩
    · rw [searchWindow_start _ _ e hcls, searchWindow_start _ _ e hcls]
      exact ⟨rfl, rfl, rfl, rfl, rfl, exists_new_append h.events (.frameStarted e)⟩
  · rw [takeSample_locked s b e hc hl, takeSample_locked u b e (h.cnt ▸ hc) (h.lock ▸ hl), hw]
    exact ⟨h.lock, rfl, rfl, rfl, rfl, exists_new_append h.events (.bit _ e)⟩

end

theorem opsKeep_sameCourse (es eu : List Event) : OpsKeep (State.SameCourse es eu) :=
  ⟨resetRegisters_sameCourse, endFrame_sameCourse, takeSample_sameCourse, consult_sameCourse⟩

theorem opsKeep_sr_eq : OpsKeep fun s u => s.sr = u.sr where
  resetRegisters _ := rfl
  endFrame h := by simpa using h
  takeSample b h := by rw [takeSample_sr, takeSample_sr, h]
  consult _ _ h := h

theorem nextCode_of_input_eq {s u : State} (h : s.input = u.input) : s.nextCode = u.nextCode := by
  simp [State.nextCode, h]

theorem step_input_eq {s u s' u' : State} (h : s.input = u.input) (hs : step s = .next s') (hu : step u = .next u') :
    s'.input = u'.input := by
  rw [step_input hs, step_input hu, h]

/-- Settles O38: of `sr` a step reads the pending samples alone. -/
theorem deadBits : Obligations.DeadBits := by
  unfold Obligations.DeadBits
  intro s u s' u' hl hc hp hi hs hu
  have h := (opsKeep_sameCourse s.events u.events).step (beginStep_sameCourse hl hc hp ⟨[], by simp⟩)
    (nextCode_of_input_eq hi) hs hu
  exact ⟨h.lock, h.cnt, h.pending, step_input_eq hi hs hu, h.out, h.tableRead⟩

/-! ## The same registers -/

/-- `s` and `u` have the same registers, and since `es` and `eu` they have emitted the same events. -/
def State.SameSince (es eu : List Event) (s u : State) : Prop :=
  s.registers = u.registers ∧ ∃ new : List Event, s.events = es ++ new ∧ u.events = eu ++ new

/-- Steps on one input word keep the registers the same, give the same output word and the same read, and emit the
same. -/
theorem step_sameSince {es eu : List Event} {s u s' u' : State} (h : State.SameSince es eu s u)
    (hi : s.nextCode = u.nextCode) (hs : step s = .next s') (hu : step u = .next u') :
    State.SameSince es eu s' u' ∧ s'.out = u'.out ∧ s'.tableRead = u'.tableRead := by
  obtain ⟨hreg, hev⟩ := h
  obtain ⟨hsr, hc, hl⟩ := (State.registers_eq_iff s u).1 hreg
  have h := (opsKeep_sameCourse es eu).step (beginStep_sameCourse hl hc (by rw [hsr, hc]) hev) hi hs hu
  have hsr' : s'.sr = u'.sr := opsKeep_sr_eq.step hsr hi hs hu
  exact ⟨⟨(State.registers_eq_iff s' u').2 ⟨hsr', h.cnt, h.lock⟩, h.events⟩, h.out, h.tableRead⟩

/-- Settles O31: two states with the same registers, each measured from its own event stream. -/
theorem recordNeverRead : Obligations.RecordNeverRead := by
  unfold Obligations.RecordNeverRead
  intro s u s' u' hreg hi hs hu
  have h : State.SameSince s.events u.events s u := ⟨hreg, [], by simp⟩
  obtain ⟨⟨hreg', hev⟩, hout, hread⟩ := step_sameSince h (nextCode_of_input_eq hi) hs hu
  exact ⟨hreg', step_input_eq hi hs hu, hout, hread, hev⟩

theorem run_sameSince {es eu : List Event} {k : Nat} {s u s' u' : State} (h : State.SameSince es eu s u)
    (hout : s.out = u.out) (hi : s.input = u.input) (hs : core.run k s = .next s') (hu : core.run k u = .next u') :
    State.SameSince es eu s' u' ∧ s'.out = u'.out := by
  induction k generalizing s u with
  | zero => cases hs; cases hu; exact ⟨h, hout⟩
  | succ k ih =>
    obtain ⟨s₁, hs₁, hs⟩ := run_succ_cases hs
    obtain ⟨u₁, hu₁, hu⟩ := run_succ_cases hu
    obtain ⟨h₁, hout₁, -⟩ := step_sameSince h (nextCode_of_input_eq hi) hs₁ hu₁
    exact ih h₁ hout₁ (step_input_eq hi hs₁ hu₁) hs hu

/-- Settles O43: the RESET step makes the registers and the output word the same, and nothing of the start state is read
after it. -/
theorem startStateForgotten : Obligations.StartStateForgotten := by
  unfold Obligations.StartStateForgotten
  intro k s u s' u' w rest hsi hui hw hs hu
  have hs₁ := step_of_reset_word hsi hw
  have hu₁ := step_of_reset_word hui hw
  rw [run_succ hs₁] at hs
  rw [run_succ hu₁] at hu
  have hreset : State.SameSince s.events u.events s.beginStep.resetRegisters u.beginStep.resetRegisters :=
    ⟨rfl, [], by simp⟩
  obtain ⟨⟨hreg, hev⟩, hout⟩ := run_sameSince hreset rfl (step_input_eq (hsi.trans hui.symm) hs₁ hu₁) hs hu
  exact ⟨hreg, hout, hev⟩

/-! ## IDLE steps left out -/

theorem step_of_idle_word {s : State} {w : InWord} {rest : List InWord} (hi : s.input = w :: rest)
    (hw : isIdleWord w = true) : step s = .next s.beginStep := by
  obtain ⟨-, -, -, -, hidle, -⟩ := inputWordMap w
  rw [step_of_input_cons hi, hidle (by simpa [isIdleWord] using hw)]
  rfl

/-- A run over input words and one over those of them that are not IDLE, from the same registers (D18). -/
theorem run_filter_idle {es eu : List Event} {ws : List InWord} {s u : State} (h : State.SameSince es eu s u)
    (hs : s.input = ws) (hu : u.input = ws.filter fun w => !isIdleWord w) :
    ∃ t v : State, core.run ws.length s = .next t ∧
      core.run (ws.filter fun w => !isIdleWord w).length u = .next v ∧ State.SameSince es eu t v := by
  induction ws generalizing s u with
  | nil => exact ⟨s, u, rfl, rfl, h⟩
  | cons w ws ih =>
    by_cases hw : isIdleWord w = true
    · have hs₁ := step_of_idle_word hs hw
      rw [List.filter_cons_of_neg (by simp [hw])] at hu ⊢
      rw [List.length_cons, run_succ hs₁]
      exact ih h (by simp [hs]) hu
    · rw [List.filter_cons_of_pos (by simp [hw])] at hu ⊢
      obtain ⟨s₁, hs₁⟩ := step_completes s
      obtain ⟨u₁, hu₁⟩ := step_completes u
      have hcode : s.nextCode = u.nextCode := by rw [s.nextCode_cons _ _ hs, u.nextCode_cons _ _ hu]
      obtain ⟨h₁, -, -⟩ := step_sameSince h hcode hs₁ hu₁
      rw [List.length_cons, List.length_cons, run_succ hs₁, run_succ hu₁]
      exact ih h₁ (by rw [step_input hs₁, hs]; rfl) (by rw [step_input hu₁, hu]; rfl)

/-- Settles O42, by induction on the input words: an IDLE step changes no register and emits nothing, and any other is
taken in both runs. -/
theorem idleStepsDoNotMatter : Obligations.IdleStepsDoNotMatter := by
  unfold Obligations.IdleStepsDoNotMatter
  intro s ws
  obtain ⟨t, u, ht, hu, hreg, new, hev, hev'⟩ :=
    run_filter_idle (es := s.events) (eu := s.events) (ws := ws) (s := { s with input := ws })
      (u := { s with input := ws.filter fun w => !isIdleWord w }) ⟨rfl, [], by simp⟩ rfl rfl
  exact ⟨t, u, ht, hu, hreg, hev.trans hev'.symm⟩

end Sys2Proof.Machine
